-- ==== Sys2Proof/Word.lean ====
section
/-! DEFINITION. The two words the manual treats as bits: a byte on a link, and a trailer tag. -/

namespace Sys2Proof

/-- One byte as it crosses a link (R166). -/
abbrev Byte := BitVec 8

/-- A trailer tag, a 32-bit identifier (introduction, section 0.5.2). The zero tag is never placed. -/
abbrev Tag := BitVec 32

end Sys2Proof
end

