-- ==== Sys2Proof/Syntax.lean ====
section
/-! DEFINITION. The commands of the part: one constructor of `Instr` for each row of spec/opcode_table.json.

A frame that completes on a port is a command that carries the port it completed on and its body bytes; its kind
byte is the constructor's (Table 10-6). The steps the part takes of its own accord (a pool search completing, a
count meeting its limit on a tick) are commands too, because the manual leaves their order against frames and
against each other open, and the order of the commands is how one run chooses it. -/

namespace Sys2Proof

/-- The four links of the part (R166): three master ports and UNT. -/
inductive PortId where
  | ofc | cab | pat | unt
  deriving DecidableEq, Repr

/-- The three masters (section 0.3). -/
inductive Master where
  | ofc | cab | pat
  deriving DecidableEq, Repr

/-- The port of a master. -/
def Master.port : Master → PortId
  | .ofc => .ofc
  | .cab => .cab
  | .pat => .pat

/-- The master at a port; none for UNT. -/
def PortId.master : PortId → Option Master
  | .ofc => some .ofc
  | .cab => some .cab
  | .pat => some .pat
  | .unt => none

/-- The two kinds of check item (R139). -/
inductive CheckKind where
  | door | fuel
  deriving DecidableEq, Repr

/-- An index into the Trailer Record pool (R6). -/
abbrev RecIdx := Fin 48

/-- One command per row of spec/opcode_table.json. -/
inductive Instr where
  -- frames on UNT (Table 10-6 kinds 1 and 2)
  | unitReport (port : PortId) (body : List Byte)
  | poll (port : PortId) (body : List Byte)
  -- what the Link Front sees of a line (R166 to R169)
  | unknownKind (port : PortId) (kind : Byte) (body : List Byte)
  | frameCheckFail (port : PortId)
  | interbyteTimeout (port : PortId)
  | portBusy (port : PortId) (kind : Byte) (body : List Byte)
  | replyComplete (port : PortId)
  -- the Yard Map
  | zoneSet (port : PortId) (body : List Byte)
  | zoneGet (port : PortId) (body : List Byte)
  | baySet (port : PortId) (body : List Byte)
  | place (port : PortId) (body : List Byte)
  | move (port : PortId) (body : List Byte)
  | release (port : PortId) (body : List Byte)
  | recordGet (port : PortId) (body : List Byte)
  | recordEdit (port : PortId) (body : List Byte)
  | collect (port : PortId) (body : List Byte)
  | scanChanged (port : PortId) (body : List Byte)
  | sweepSeen (port : PortId) (body : List Byte)
  -- the Tag Translator
  | flushTags (port : PortId) (body : List Byte)
  | searchComplete
  -- the Report Intake
  | takeHead
  | reportApplication
  -- the Yard Clock and the Round Plans
  | clockSet (port : PortId) (body : List Byte)
  | clockTrim (port : PortId) (body : List Byte)
  | clockGet (port : PortId) (body : List Byte)
  | planSet (port : PortId) (body : List Byte)
  | planGet (port : PortId) (body : List Byte)
  -- the Event Link Table and the configuration
  | linkSet (port : PortId) (body : List Byte)
  | linkGet (port : PortId) (body : List Byte)
  | configSet (port : PortId) (body : List Byte)
  | configGet (port : PortId) (body : List Byte)
  -- requests that name a trailer
  | defrostRequest (port : PortId) (body : List Byte)
  | defrostCancel (port : PortId) (body : List Byte)
  | holdSet (port : PortId) (body : List Byte)
  | holdClear (port : PortId) (body : List Byte)
  | fuelPost (port : PortId) (body : List Byte)
  | checkAdd (port : PortId) (body : List Byte)
  | checkClose (port : PortId) (body : List Byte)
  -- readouts
  | checkList (port : PortId) (body : List Byte)
  | queueGet (port : PortId) (body : List Byte)
  | feederGet (port : PortId) (body : List Byte)
  -- notices and status
  | fetchNotice (port : PortId) (body : List Byte)
  | holdNotices (port : PortId) (body : List Byte)
  | releaseNotices (port : PortId) (body : List Byte)
  | statusGet (port : PortId) (body : List Byte)
  | yardRestart (port : PortId) (body : List Byte)
  /-- The restart that follows YARD_RESTART; `strap` is the COMM strap as sampled (asserted or not). -/
  | restartAct (strap : Bool)
  -- the cabinet and the patrol
  | setBudget (port : PortId) (body : List Byte)
  | revoke (port : PortId) (body : List Byte)
  | nextCheck (port : PortId) (body : List Byte)
  -- the second tick and what it brings about
  | secondTick
  | minuteRollover
  | unitSilent (record : RecIdx)
  | doorOpenLong (record : RecIdx)
  | abandoned (record : RecIdx)
  | timedOut (record : RecIdx)
  | defrostNotBeforeZero (record : RecIdx)
  | cmdUnconfirmed (record : RecIdx)
  | checkTimeout (record : RecIdx) (kind : CheckKind)
  | suppressionWindowExpiry (master : Master)
  | pulseEnd (master : Master)
  -- the supplies
  | supplyApplied
  | mfailAsserted
  /-- MFAIL released with VMAIN present; `strap` is the COMM strap as sampled (asserted or not). -/
  | mfailReleased (strap : Bool)
  | supplyLoss
  -- the receiver
  | syncByte (port : PortId)
  /-- The byte after a sync, `length`, is above 120. -/
  | bodyLengthAbove120 (port : PortId) (length : Byte)
  deriving DecidableEq, Repr

end Sys2Proof
end

