-- ==== Sys2Proof/Config.lean ====
section
/-! DEFINITION. The sizes, limits and periods the manual fixes for the part, each naming the rule that states it, and the one
value it leaves open, the bytes of a reply's fields. Settings that software may change (Table 10-7) are state, not
configuration. -/

namespace Sys2Proof.Config

/-- Reports the Intake FIFO holds (R42). -/
def intakeDepth : Nat := 8
/-- Notices each Notice Queue holds (R159). -/
def noticeDepth : Nat := 16
/-- Items the Check List holds (R139). -/
def checkListSize : Nat := 64
/-- Items that may be ISSUED at once (R139, R143). -/
def issuePlaces : Nat := 4
/-- The largest feeder budget, in tenths of a kilowatt (R91). -/
def maxBudget : Nat := 4000
/-- Report age at which a record becomes STALE, in seconds (R50). -/
def staleAge : Nat := 600
/-- The largest time step handed to the Estimator, in seconds (R48). -/
def maxTimeStep : Nat := 900
/-- Where the saturating second counts stop (R49, R53, R65). -/
def countTop : Nat := 65535
/-- Seconds after which a command in flight times out (R126). -/
def commandTimeout : Nat := 90
/-- Seconds after which a suppression window closes (R164). -/
def windowSeconds : Nat := 60
/-- The not-before set by TERMINATED and TIMED_OUT, in seconds (R105). -/
def afterDefrostWait : Nat := 1800
/-- Accumulator units per frost level unit (R62). -/
def frostScale : Nat := 262144
/-- A_MAX, the top of the frost accumulator (R58). -/
def frostMax : Nat := 17179607040
/-- The excess of a manual queue entry (R93). -/
def manualExcess : Nat := 65535
/-- The pass count at which a queue entry is pinned (R93). -/
def pinCount : Nat := 4
/-- The last joined-at number and the last grant number before each counter goes back (R93, R103). -/
def counterTop : Nat := 4294967295
/-- The runway value that stands for unknown (R70). -/
def runwayUnknown : Nat := 65535
/-- The cap of a rate sample and of the burn rate (R68). -/
def burnRateTop : Nat := 1000
/-- The reissue count at which an item is escalated (R148). -/
def escalateCount : Nat := 3
/-- Tags in one SCAN_CHANGED reply (R23). -/
def scanPage : Nat := 24
/-- Entries in one QUEUE_GET or FEEDER_GET reply (R115, R116). -/
def queuePage : Nat := 8
/-- Items in one CHECK_LIST reply (R151). -/
def checkPage : Nat := 4
/-- The longest frame body (R166). -/
def maxBody : Nat := 120

/-- FREE VALUE. The bytes in which a reply carries a field that has a value (or, with no numbers, in which it carries that the
field has none), by the field's name in the manual and the numbers of its value. The manual gives widths and codes for the
fields of requests only (R173), so nothing is known of these bytes (log 9). -/
opaque replyValue (field : String) (numbers : List Int) : List Byte

end Sys2Proof.Config
end

