-- ==== Sys2Proof/Machine/State.lean ====
section
/-! DEFINITION. Every piece of state the manual gives the part, as plain data, with the values it takes at a cold
start. The fields of `State` stand in the order of Table 0-1's blocks. -/

namespace Sys2Proof.Machine

open Sys2Proof

/-! ## Values shared by several blocks -/

/-- One value for each master. -/
structure PerMaster (α : Type) where
  ofc : α
  cab : α
  pat : α
  deriving DecidableEq, Repr

/-- The value held for one master. -/
def PerMaster.get {α : Type} (p : PerMaster α) : Master → α
  | .ofc => p.ofc
  | .cab => p.cab
  | .pat => p.pat

/-- The same values but for one master. -/
def PerMaster.set {α : Type} (p : PerMaster α) (m : Master) (a : α) : PerMaster α :=
  match m with
  | .ofc => { p with ofc := a }
  | .cab => { p with cab := a }
  | .pat => { p with pat := a }

/-- The same value for each master. -/
def PerMaster.all {α : Type} (a : α) : PerMaster α := ⟨a, a, a⟩

/-- A yard time as it is stamped: YY-MM-DD hh:mm:ss (section 0.5.3). -/
structure YardTime where
  year : Nat
  month : Nat
  day : Nat
  hour : Nat
  minute : Nat
  second : Nat
  deriving DecidableEq, Repr

/-- A bay address z.bb (section 0.5.2). -/
structure BayAddr where
  zone : Fin 8
  bay : Fin 16
  deriving DecidableEq, Repr

/-- A feeder number. -/
abbrev FeederNo := Fin 4

/-- One of the three rights (R1, R4). -/
inductive Right where
  | defrost | check | hold
  deriving DecidableEq, Repr

/-- A subset of {DEFROST, CHECK, HOLD}. -/
structure Rights where
  defrost : Bool
  check : Bool
  hold : Bool
  deriving DecidableEq, Repr

/-- All three rights, the cold value of zones and bays. -/
def Rights.all : Rights := ⟨true, true, true⟩

/-- A reefer unit's power source. -/
inductive Source where
  | shore | diesel
  deriving DecidableEq, Repr

/-- A door reading. -/
inductive Door where
  | closed | opened
  deriving DecidableEq, Repr

/-- A mode echo that names a mode (R39, Table 10-2). -/
inductive ModeEcho where
  | cool | heat | fansOff | standby | off
  deriving DecidableEq, Repr

/-! ## Yard Map -/

/-- A Zone Directory entry (Table 1-1). Times are minutes, loads tenths of a kilowatt, the termination
temperature tenths of a degree Celsius. -/
structure Zone where
  isOpen : Bool
  feeder : FeederNo
  rights : Rights
  frostThreshold : Nat
  defrostMax : Nat
  terminationTemp : Int
  holdLimit : Nat
  doorAlarm : Nat
  fuelMargin : Nat
  fuelFloor : Nat
  defaultLoad : Nat
  deriving DecidableEq, Repr

/-- A bay entry (R4). The bay is occupied exactly when it holds a record index. -/
structure BayEntry where
  occupant : Option RecIdx
  rights : Rights
  locked : Bool
  deriving DecidableEq, Repr

/-! ## What the other blocks keep in a Trailer Record -/

/-- A reefer unit's state as the Report Intake knows it (R50). -/
inductive UnitState where
  | awaiting | live | stale
  deriving DecidableEq, Repr

/-- The latest readings of a record, with the arrival stamp of their report as the reading time (R55). -/
structure Readings where
  returnAir : Int
  coil : Int
  ambient : Int
  humidity : Option Nat
  door : Door
  fuel : Option Nat
  echo : ModeEcho
  readAt : YardTime
  deriving DecidableEq, Repr

/-- The last refuel record; the amount is absent for a FUEL_POST (R69, R72). -/
structure Refuel where
  time : YardTime
  amount : Option Nat
  deriving DecidableEq, Repr

/-- The kinds of activity (R75). -/
inductive Activity where
  | cool | defrost | doorHold | serviceHold
  deriving DecidableEq, Repr

/-- An entry of an activity chain (R75). -/
structure ChainEntry where
  kind : Activity
  covered : Option Activity
  setBy : Option Master
  deriving DecidableEq, Repr

/-- The defrost run data of a record (R102); the feeder is absent for a DIESEL grant. -/
structure RunData where
  grant : Nat
  feeder : Option FeederNo
  load : Nat
  heating : Nat
  paused : Nat
  deriving DecidableEq, Repr

/-- The four unit commands. -/
inductive Command where
  | coolResume | heatOn | fansOff | standby
  deriving DecidableEq, Repr

/-- A command in flight (R119). -/
structure InFlight where
  command : Command
  sequence : Fin 16
  sentAt : YardTime
  seconds : Nat
  deriving DecidableEq, Repr

/-- The command slot in its four states (Table 7-1). -/
inductive Slot where
  | empty
  | queued (command : Command)
  | sent (flight : InFlight)
  | sentNext (flight : InFlight) (next : Command)
  deriving DecidableEq, Repr

/-- A placed Trailer Record (Table 1-2), with the door history and alarm mark that Table 3-2 keeps beside it. The
frost level of Table 1-2 is not stored apart from the accumulator: it is `frostLevel` of it (R58, R62). -/
structure TrailerRecord where
  tag : Tag
  bay : BayAddr
  source : Source
  heaterLoad : Option Nat
  thresholdOverride : Option Nat
  unitState : UnitState
  readings : Option Readings
  reportAge : Nat
  lastSequence : Option Byte
  /-- The door of the last accepted report; none is "unknown" (R47). -/
  doorHistory : Option Door
  doorOpenSince : Option Nat
  alarmMark : Bool
  /-- The frost accumulator A. -/
  frost : Nat
  /-- The threshold in force T. -/
  threshold : Nat
  /-- The fuel reference level P. -/
  fuelRef : Option Nat
  fuelAge : Nat
  /-- The burn rate B. -/
  burnRate : Nat
  runway : Nat
  fuelLow : Bool
  lastRefuel : Option Refuel
  /-- The activity chain, oldest entry first. -/
  chain : List ChainEntry
  run : Option RunData
  notBefore : Nat
  cancelLatch : Bool
  slot : Slot
  sequence : Fin 16
  seen : Bool
  changed : Bool
  deriving DecidableEq, Repr

/-! ## Tag Translator -/

/-- A valid entry of the Tag Cache (R25). -/
structure CacheEntry where
  tag : Tag
  record : RecIdx
  bay : BayAddr
  rights : Rights
  deriving DecidableEq, Repr

/-- A set of the Tag Cache: four ways, and the order of its valid ways from most to least recent (R25). -/
structure CacheSet where
  ways : Vector (Option CacheEntry) 4
  recency : List (Fin 4)
  deriving DecidableEq, Repr

/-- Whose lookup a pool search answers (section 2.3). -/
inductive Waiter where
  | intake
  | master (m : Master)
  deriving DecidableEq, Repr

/-- A lookup that missed: the active waiter of the engine, or a place in the search wait list (R28). -/
structure Search where
  waiter : Waiter
  tag : Tag
  deriving DecidableEq, Repr

/-! ## Report Intake -/

/-- A unit report as received, with its arrival stamp (R39, R41, Table 10-2). The mode echo and the confirmation are
kept as the bytes they came in, because the Report Intake decodes them at the head only (R40). -/
structure UnitReport where
  tag : Tag
  sequence : Byte
  source : Source
  door : Door
  echoCode : Byte
  returnAir : Int
  coil : Int
  ambient : Int
  humidity : Option Nat
  fuel : Option Nat
  confirmation : Option Nat
  arrival : YardTime
  deriving DecidableEq, Repr

/-- What the Report Intake is doing (section 3.3): idle, waiting for the head's lookup, or holding the lookup's answer
until the head is applied (R44). -/
inductive IntakeState where
  | idle
  | translating
  | translated (record : RecIdx)
  deriving DecidableEq, Repr

/-! ## Defrost Scheduler -/

/-- A feeder's budget and granted sum (R91). -/
structure Feeder where
  budget : Nat
  granted : Nat
  deriving DecidableEq, Repr

/-- An entry of the Defrost Queue (R93). -/
structure QueueEntry where
  record : RecIdx
  excess : Nat
  manual : Bool
  joinedAt : Nat
  passCount : Nat
  deriving DecidableEq, Repr

/-- An item of the grant list (R103). -/
structure GrantItem where
  number : Nat
  record : RecIdx
  feeder : Option FeederNo
  load : Nat
  deriving DecidableEq, Repr

/-! ## Events -/

/-- The sixteen event kinds (Table 9-1). -/
inductive EventKind where
  | frostDemand | defrostDone | defrostStopped | doorOpenLong | doorDamaged | fuelLow | refuelSeen | unitSilent
  | unknownUnit | cmdUnconfirmed | checkEscalated | checkListFull | roundMatch | rightsRefusal | intakeOverrun
  | feederShort
  deriving DecidableEq, Repr

/-- Why a check item was made (R139). -/
inductive Origin where
  | round (plan : Fin 8)
  | event (kind : EventKind)
  | manual
  deriving DecidableEq, Repr

/-- Why a revoked defrost was revoked (R106). -/
inductive RevokeCause where
  | budget | revoke | source
  deriving DecidableEq, Repr

/-- The reason DEFROST_STOPPED carries (R106). -/
inductive StopReason where
  | timedOut
  | revoked (cause : RevokeCause)
  | abandoned
  | cancelled
  | released
  deriving DecidableEq, Repr

/-- The level of a cause record (R12). -/
inductive Level where
  | zone | bay | record
  deriving DecidableEq, Repr

/-- The access kind of a request (R9, R12). -/
inductive Access where
  | read | act
  deriving DecidableEq, Repr

/-- The path of a resolution (R12). -/
inductive Path where
  | cached | walked
  deriving DecidableEq, Repr

/-- A subject as a request names it (R8, Table 10-5). -/
inductive Subject where
  | tag (t : Tag)
  | bay (b : BayAddr)
  deriving DecidableEq, Repr

/-- The cause record of a refusal (R12). -/
structure Cause where
  level : Level
  access : Access
  path : Path
  name : Subject
  deriving DecidableEq, Repr

/-- The detail of an event, one form for each row of Table 9-1 (two for FROST_DEMAND). -/
inductive Detail where
  | frostDemand (excess level threshold : Nat)
  | frostDemandManual (port : Master)
  | defrostDone (grant heating : Nat)
  | defrostStopped (reason : StopReason) (grant heating : Nat)
  | doorOpenLong (minutes : Nat)
  | doorDamaged (port : Master)
  /-- The runway is none where it is unknown (R71). -/
  | fuelLow (level : Nat) (runway : Option Nat)
  | refuelSeen (amount : Option Nat)
  | unitSilent (lastSequence : Option Byte)
  | unknownUnit (sequence : Byte)
  | cmdUnconfirmed (command : Command) (sequence : Fin 16) (sentAt : YardTime)
  | checkEscalated (kind : CheckKind) (origin : Origin) (reissues : Nat)
  | checkListFull (kind : CheckKind) (origin : Origin)
  | roundMatch (plan : Fin 8)
  | rightsRefusal (port : Master) (cause : Cause)
  | intakeOverrun (tag : Tag) (sequence : Byte)
  | feederShort (feeder : FeederNo) (load budget granted : Nat)
  deriving DecidableEq, Repr

/-- What an event is about (R153). -/
inductive EventSubject where
  | trailer (tag : Tag) (bay : BayAddr) (record : RecIdx)
  | tagAlone (tag : Tag)
  | absent
  deriving DecidableEq, Repr

/-- An event of the part (R153). -/
structure Event where
  subject : EventSubject
  detail : Detail
  deriving DecidableEq, Repr

/-! ## Round and Check Unit -/

/-- The Yard Clock (Table 8-1). -/
structure Clock where
  time : YardTime
  weekday : Nat
  valid : Bool
  deriving DecidableEq, Repr

/-- The kind of a Round Plan (R136). -/
inductive PlanKind where
  | doorRound | fuelRound
  deriving DecidableEq, Repr

/-- A collation range of an AT plan (Table 8-3). -/
inductive Collation where
  | m | hm | whm | dhm
  deriving DecidableEq, Repr

/-- The match of a Round Plan, with the fields of the match chosen (R136). -/
inductive PlanMatch where
  | every (period : Nat)
  | atTime (minute hour weekday day : Nat) (range : Collation)
  deriving DecidableEq, Repr

/-- A Round Plan (R136). Bit z of the mask is zone z (R173). -/
structure Plan where
  active : Bool
  kind : PlanKind
  mask : BitVec 8
  rule : PlanMatch
  deriving DecidableEq, Repr

/-- The priority of a check item (R139). -/
inductive Priority where
  | normal | urgent
  deriving DecidableEq, Repr

/-- A check item's state; issued-at and the seconds since issue stand while it is ISSUED (R139). -/
inductive ItemState where
  | pending
  | issued (time : YardTime) (seconds : Nat)
  deriving DecidableEq, Repr

/-- An item of the Check List (R139). `serial` is the model's own number of the item, given in the order of addition; it
tells an item from a later one of the same trailer and kind for NEXT_CHECK (R143, R144). -/
structure CheckItem where
  tag : Tag
  record : RecIdx
  kind : CheckKind
  priority : Priority
  origin : Origin
  state : ItemState
  createdAt : YardTime
  reissues : Nat
  serial : Nat
  deriving DecidableEq, Repr

/-! ## Event Link and Notice Unit -/

/-- The action of a link entry (R154). -/
inductive LinkAction where
  | none | doorCheckUrgent | fuelCheckUrgent
  deriving DecidableEq, Repr

/-- An entry of the Event Link Table (R154). -/
structure LinkEntry where
  notify : PerMaster Bool
  action : LinkAction
  deriving DecidableEq, Repr

/-- A notice (R158). The record index stands on condition notices only, and is not returned to the master. -/
structure Notice where
  tag : Option Tag
  bay : Option BayAddr
  detail : Detail
  stamp : YardTime
  lostBefore : Bool
  record : Option RecIdx
  deriving DecidableEq, Repr

/-- What the Event Link and Notice Unit keeps for one master: its Notice Queue, oldest first, its lost marker, its
suppression window (the open-seconds while it is open) and whether its attention line is asserted (R159 to R164). -/
structure Desk where
  notices : List Notice
  lost : Bool
  window : Option Nat
  line : Bool
  deriving DecidableEq, Repr

/-- An attention mode (section 9.6). -/
inductive AttentionMode where
  | level | pulse
  deriving DecidableEq, Repr

/-! ## Configuration -/

/-- The seven configuration settings (Table 10-7). -/
structure Settings where
  strict : Bool
  humidityFallback : Nat
  doorWeight : Nat
  checkTimeout : Nat
  attention : PerMaster AttentionMode
  deriving DecidableEq, Repr

/-! ## Requests as taken

A request whose lookup misses is held by its port until the search completes, so the request as taken is state. -/

/-- A close result that suits its kind (R146). -/
inductive CloseResult where
  | secure | ajar | damaged
  | fuel (level : Nat) (refuelled : Bool)
  deriving DecidableEq, Repr

/-- The kind of item a close result closes. -/
def CloseResult.kind : CloseResult → CheckKind
  | .fuel _ _ => .fuel
  | _ => .door

/-- The feeder field of FEEDER_GET: a feeder, or DIESEL (none). -/
abbrev FeederChoice := Option FeederNo

/-- A value for one of the seven settings (Table 10-7). -/
inductive SettingValue where
  | strict (on : Bool)
  | humidityFallback (percent : Nat)
  | doorWeight (weight : Nat)
  | checkTimeout (minutes : Nat)
  | attention (m : Master) (mode : AttentionMode)
  deriving DecidableEq, Repr

/-- A master request whose fields have passed their range test (Table 10-6). -/
inductive Request where
  | zoneSet (zone : Fin 8) (entry : Zone)
  | zoneGet (zone : Fin 8)
  | baySet (bay : BayAddr) (rights : Rights) (locked : Bool)
  | place (tag : Tag) (bay : BayAddr) (source : Option Source) (load : Option Nat)
  | move (tag : Tag) (bay : BayAddr)
  | release (tag : Tag)
  | recordGet (subject : Subject)
  | recordEdit (subject : Subject) (load override : Option Nat)
  | collect (subject : Subject)
  | scanChanged (start : RecIdx)
  | sweepSeen
  | flushTags
  | clockSet (time : YardTime) (weekday : Nat)
  | clockTrim
  | clockGet
  | planSet (plan : Fin 8) (value : Plan)
  | planGet (plan : Fin 8)
  | linkSet (kind : EventKind) (entry : LinkEntry)
  | linkGet (kind : EventKind)
  | configSet (value : SettingValue)
  | configGet
  | defrostRequest (subject : Subject)
  | defrostCancel (subject : Subject)
  | holdSet (subject : Subject)
  | holdClear (subject : Subject)
  | fuelPost (subject : Subject) (level : Nat) (refuelled : Bool)
  | checkAdd (subject : Subject) (kind : CheckKind) (priority : Priority)
  | checkClose (tag : Tag) (result : CloseResult)
  | checkList (start : Nat)
  | queueGet (start : Nat)
  | feederGet (choice : FeederChoice) (start : Nat)
  | fetchNotice
  | holdNotices
  | releaseNotices
  | statusGet
  | yardRestart
  | setBudget (feeder : FeederNo) (value : Nat)
  | revoke (subject : Subject) (deferral : Nat)
  | nextCheck
  deriving DecidableEq, Repr

/-! ## Replies -/

/-- A defrost as a view gives it (R89). -/
inductive DefrostState where
  | absent | running | paused
  deriving DecidableEq, Repr

/-- The full view of a record (R19, R89, R119): every field of Table 1-2, with the effective rights and lock of the
trailer's bay. -/
structure FullView where
  tag : Tag
  bay : BayAddr
  source : Source
  heaterLoad : Option Nat
  thresholdOverride : Option Nat
  unitState : UnitState
  readings : Option Readings
  reportAge : Nat
  lastSequence : Option Byte
  doorOpenSince : Option Nat
  frost : Nat
  level : Nat
  threshold : Nat
  fuelRef : Option Nat
  fuelAge : Nat
  burnRate : Nat
  /-- Absent while the power source is SHORE (R65). -/
  runway : Option Nat
  fuelLow : Bool
  lastRefuel : Option Refuel
  chain : List ChainEntry
  effective : Activity
  wanted : Command
  defrost : DefrostState
  run : Option RunData
  notBefore : Nat
  cancelLatch : Bool
  slot : Slot
  sequence : Fin 16
  seen : Bool
  changed : Bool
  rights : Rights
  locked : Bool
  deriving DecidableEq, Repr

/-- The patrol view of a record (R19). -/
structure PatrolView where
  tag : Tag
  bay : BayAddr
  chain : List ChainEntry
  door : Option Door
  fuel : Option Nat
  runway : Option Nat
  pendingChecks : List CheckKind
  deriving DecidableEq, Repr

/-- An entry as QUEUE_GET gives it (R115). -/
structure QueueView where
  tag : Tag
  bay : BayAddr
  excess : Nat
  manual : Bool
  passCount : Nat
  pinned : Bool
  source : Source
  feeder : Option FeederNo
  load : Nat
  eligible : Bool
  notBefore : Nat
  deriving DecidableEq, Repr

/-- A grant list item as FEEDER_GET gives it (R116). -/
structure GrantView where
  number : Nat
  tag : Tag
  load : Nat
  running : Bool
  heating : Nat
  deriving DecidableEq, Repr

/-- A check item as CHECK_LIST gives it (R151). -/
structure CheckView where
  tag : Tag
  bay : BayAddr
  kind : CheckKind
  priority : Priority
  origin : Origin
  issued : Bool
  createdAt : YardTime
  issuedAt : Option YardTime
  seconds : Nat
  reissues : Nat
  deriving DecidableEq, Repr

/-- The item a NEXT_CHECK is answered with (R145). -/
structure IssuedView where
  tag : Tag
  bay : BayAddr
  kind : CheckKind
  priority : Priority
  origin : Origin
  createdAt : YardTime
  reissues : Nat
  deriving DecidableEq, Repr

/-- The still-present field of a condition notice (R161). -/
inductive StillPresent where
  | gone | present | cleared
  deriving DecidableEq, Repr

/-- A notice as FETCH_NOTICE gives it (R160); the kind is the detail's. -/
structure FetchedNotice where
  tag : Option Tag
  bay : Option BayAddr
  detail : Detail
  stamp : YardTime
  lostBefore : Bool
  stillPresent : Option StillPresent
  deriving DecidableEq, Repr

/-- YARD or COMMISSION mode (R180). -/
inductive Mode where
  | yard | commission
  deriving DecidableEq, Repr

/-- The cause of the last restart (R182). -/
inductive RestartCause where
  | cold | mainsReturn | yardRestart
  deriving DecidableEq, Repr

/-- The fields of STATUS_GET (Table 10-8). -/
structure StatusView where
  mode : Mode
  cause : RestartCause
  restartSeen : Bool
  clockValid : Bool
  placed : Nat
  queueLength : Nat
  checkItems : Nat
  intakeFill : Nat
  notices : Nat
  lost : Bool
  deriving DecidableEq, Repr

/-- What a DONE or EMPTY reply gives after its code (R172). -/
inductive Payload where
  | nothing
  | zone (entry : Zone)
  | placed (record : RecIdx)
  | full (view : FullView)
  | patrol (view : PatrolView)
  /-- The tags listed, and the index at which a further scan continues, or none for "end" (R23). -/
  | scan (tags : List Tag) (next : Option Nat)
  | clock (value : Clock)
  | plan (value : Plan)
  | link (entry : LinkEntry)
  | settings (value : Settings)
  | added (merged : Bool)
  | issued (item : IssuedView)
  | checks (items : List CheckView) (next : Option Nat)
  | queue (entries : List QueueView) (next : Option Nat)
  | feeder (sums : Option Feeder) (items : List GrantView) (next : Option Nat)
  | notice (fetched : Option FetchedNotice) (left : Nat) (lost : Bool)
  | status (view : StatusView)
  | budget (budget granted : Nat)
  deriving DecidableEq, Repr

/-- A reply on a master port (Table 10-4). PORT_BUSY is not here: it is the answer to a discarded frame (R169). -/
inductive MasterReply where
  | done (payload : Payload)
  | empty (payload : Payload)
  | notPresent (cause : Cause)
  | rights (cause : Cause)
  | busy
  | range
  | full
  | wrongPort
  | unknownKind
  deriving DecidableEq, Repr

/-- The status of a reply on UNT (Table 10-3). -/
inductive UnitStatus where
  | reportTaken | reportRefused | pollReply | unknownKind | wrongPort | range | portBusy
  deriving DecidableEq, Repr

/-- A command as a UNT reply carries it (R123). -/
structure SentCommand where
  tag : Tag
  command : Command
  sequence : Fin 16
  deriving DecidableEq, Repr

/-- The content of a reply frame. -/
inductive ReplyBody where
  | master (reply : MasterReply)
  | unit (status : UnitStatus) (command : Option SentCommand)
  deriving DecidableEq, Repr

/-- A reply being sent: it repeats the kind byte of its request (R170). -/
structure Reply where
  kind : Byte
  body : ReplyBody
  deriving DecidableEq, Repr

/-! ## Link Front -/

/-- A port's receiver (R166). -/
inductive Receiver where
  | hunting | assembling
  deriving DecidableEq, Repr

/-- The request a BUSY master port holds while its lookup waits (R28, R143). -/
inductive Held where
  | request (req : Request)
  /-- NEXT_CHECK, with the serials of the items it has considered and of the item whose lookup is out. -/
  | nextCheck (considered : List Nat) (item : Nat)
  deriving DecidableEq, Repr

/-- What a port is doing (section 10.2). Every value but `free` is the port state BUSY. -/
inductive PortActivity where
  | free
  | waiting (held : Held)
  | replying (reply : Reply)
  | answeringBusy (kind : Byte)
  /-- The DONE to YARD_RESTART has left, and the port owes a reply or a PORT_BUSY that it does not begin; the restart loses it
  (R170, R176, R181; log 8). -/
  | awaitingRestart
  deriving DecidableEq, Repr

/-- The port state of one link (section 10.2): its receiver, its activity, and the kind byte of the frame for which a
PORT_BUSY is owed (R169). -/
structure Port where
  receiver : Receiver
  activity : PortActivity
  owed : Option Byte
  deriving DecidableEq, Repr

/-- The four ports. -/
structure Ports where
  ofc : Port
  cab : Port
  pat : Port
  unt : Port
  deriving DecidableEq, Repr

/-- The state of one port. -/
def Ports.get (p : Ports) : PortId → Port
  | .ofc => p.ofc
  | .cab => p.cab
  | .pat => p.pat
  | .unt => p.unt

/-- The same ports but for one. -/
def Ports.set (p : Ports) (i : PortId) (x : Port) : Ports :=
  match i with
  | .ofc => { p with ofc := x }
  | .cab => { p with cab := x }
  | .pat => { p with pat := x }
  | .unt => { p with unt := x }

/-! ## Supply Monitor -/

/-- The supply state (R177). -/
inductive Supply where
  | unpowered | standby | inService
  deriving DecidableEq, Repr

/-! ## The tick's consequences -/

/-- An event that a second tick has brought about and that has not been taken yet. The manual makes each of them an event
of its own, taken one after another in either order (R50, R53, R99, R126, R148). -/
inductive TickEvent where
  | rollover
  | silent (record : RecIdx)
  | doorLong (record : RecIdx)
  | abandon (record : RecIdx)
  | timeOut (record : RecIdx)
  | waitOver (record : RecIdx)
  | unconfirmed (record : RecIdx)
  | checkTimeout (record : RecIdx) (kind : CheckKind)
  | windowOver (master : Master)
  deriving DecidableEq, Repr

/-! ## The machine -/

/-- The state of the part. -/
structure State where
  -- Yard Map (YMP)
  zones : Vector Zone 8
  bays : Vector (Vector BayEntry 16) 8
  /-- The Trailer Record pool; a free record is none (R6). -/
  records : Vector (Option TrailerRecord) 48
  -- Tag Translator (TTR)
  cache : Vector CacheSet 4
  /-- The lookup the engine is SEARCHING for; none is IDLE (R28). -/
  engine : Option Search
  waitList : List Search
  -- Report Intake (RIN)
  fifo : List UnitReport
  intake : IntakeState
  -- Defrost Scheduler (DFS)
  feeders : Vector Feeder 4
  queue : List QueueEntry
  /-- The number the next queue entry takes as joined-at (R93). -/
  nextJoin : Nat
  grants : List GrantItem
  /-- The number the next grant takes (R103). -/
  nextGrant : Nat
  -- Unit Command Queue (UCQ)
  downlink : List RecIdx
  -- Round and Check Unit (RCU)
  clock : Clock
  plans : Vector Plan 8
  checks : List CheckItem
  /-- The model's own: the serial the next check item takes. -/
  nextSerial : Nat
  -- Event Link and Notice Unit (ELN)
  links : Vector LinkEntry 16
  desks : PerMaster Desk
  -- Configuration (Table 10-7)
  settings : Settings
  -- Link Front (LF)
  ports : Ports
  -- Supply Monitor (SPM)
  supply : Supply
  coldPending : Bool
  mode : Mode
  cause : RestartCause
  /-- The restart-seen flags; true is "seen" (R175). -/
  restartSeen : PerMaster Bool
  /-- The DONE to YARD_RESTART has left and its restart has not acted yet (R181). -/
  restartDue : Bool
  -- the model's own
  /-- The consequences of the last second tick that have not been taken yet. -/
  due : List TickEvent
  /-- The commands that wait, first in, first out. -/
  pending : List Instr
  deriving DecidableEq, Repr

/-- The part raises no fault: the manual names no condition that stops it, and every command has an outcome in every
state. No constructor; nothing raises one, so nothing can be unsafe about it. -/
inductive Fault
  deriving DecidableEq, Repr

/-- The one refusal. -/
inductive Refusal where
  /-- Raised by an arm of `exec` whose command has no meaning yet, and by nothing else; safe, since the run stops. -/
  | notModelled (mnemonic : String)
  deriving DecidableEq, Repr

/-! ## Cold values -/

/-- A Zone Directory entry at cold start (Table 1-1). -/
def Zone.cold (z : Fin 8) : Zone :=
  { isOpen := false, feeder := ⟨z.val % 4, Nat.mod_lt _ (by decide)⟩, rights := Rights.all, frostThreshold := 600,
    defrostMax := 40, terminationTemp := 100, holdLimit := 15, doorAlarm := 20, fuelMargin := 720, fuelFloor := 15,
    defaultLoad := 60 }

/-- A bay entry at cold start (R4). -/
def BayEntry.cold : BayEntry := { occupant := none, rights := Rights.all, locked := false }

/-- An empty cache set (R25). -/
def CacheSet.cold : CacheSet := { ways := Vector.replicate 4 none, recency := [] }

/-- A Round Plan at cold start (R136). -/
def Plan.cold : Plan := { active := false, kind := .doorRound, mask := 0, rule := .every 60 }

/-- The Yard Clock at cold start (R133). -/
def Clock.cold : Clock :=
  { time := { year := 0, month := 1, day := 1, hour := 0, minute := 0, second := 0 }, weekday := 1, valid := false }

/-- The settings at cold start (Table 10-7). -/
def Settings.cold : Settings :=
  { strict := false, humidityFallback := 80, doorWeight := 40, checkTimeout := 30, attention := .all .level }

/-- The Event Link Table at cold start (Table 9-2), in the order of the event kinds. -/
def coldLinks : Vector LinkEntry 16 :=
  #v[⟨⟨false, true, false⟩, .none⟩,             -- FROST_DEMAND: CAB
     ⟨⟨true, true, false⟩, .none⟩,              -- DEFROST_DONE: OFC, CAB
     ⟨⟨true, true, false⟩, .none⟩,              -- DEFROST_STOPPED: OFC, CAB
     ⟨⟨true, false, true⟩, .doorCheckUrgent⟩,   -- DOOR_OPEN_LONG: OFC, PAT
     ⟨⟨true, false, false⟩, .none⟩,             -- DOOR_DAMAGED: OFC
     ⟨⟨true, false, true⟩, .fuelCheckUrgent⟩,   -- FUEL_LOW: OFC, PAT
     ⟨⟨true, false, false⟩, .none⟩,             -- REFUEL_SEEN: OFC
     ⟨⟨true, false, true⟩, .doorCheckUrgent⟩,   -- UNIT_SILENT: OFC, PAT
     ⟨⟨true, false, false⟩, .none⟩,             -- UNKNOWN_UNIT: OFC
     ⟨⟨true, false, false⟩, .none⟩,             -- CMD_UNCONFIRMED: OFC
     ⟨⟨true, false, false⟩, .none⟩,             -- CHECK_ESCALATED: OFC
     ⟨⟨true, false, true⟩, .none⟩,              -- CHECK_LIST_FULL: OFC, PAT
     ⟨⟨false, false, true⟩, .none⟩,             -- ROUND_MATCH: PAT
     ⟨⟨true, false, false⟩, .none⟩,             -- RIGHTS_REFUSAL: OFC
     ⟨⟨true, false, false⟩, .none⟩,             -- INTAKE_OVERRUN: OFC
     ⟨⟨true, true, false⟩, .none⟩]              -- FEEDER_SHORT: CAB, OFC

/-- What the Event Link and Notice Unit keeps for a master after each restart (Table 9-3). -/
def Desk.cold : Desk := { notices := [], lost := false, window := none, line := false }

/-- A port after each restart (R176). -/
def Port.cold : Port := { receiver := .hunting, activity := .free, owed := none }

/-- The four ports after each restart. -/
def Ports.cold : Ports := ⟨.cold, .cold, .cold, .cold⟩

/-- A feeder after each restart (R91). -/
def Feeder.cold : Feeder := { budget := 0, granted := 0 }

/-- The mode the COMMISSION strap selects at a restart (R180). -/
def Mode.ofStrap (strap : Bool) : Mode := if strap then .commission else .yard

/-- The part just after a cold start (R179 steps 1, 2 and 6), with the strap as sampled and no command waiting. -/
def State.cold (strap : Bool) : State :=
  { zones := Vector.ofFn Zone.cold
    bays := Vector.replicate 8 (Vector.replicate 16 BayEntry.cold)
    records := Vector.replicate 48 none
    cache := Vector.replicate 4 CacheSet.cold
    engine := none
    waitList := []
    fifo := []
    intake := .idle
    feeders := Vector.replicate 4 Feeder.cold
    queue := []
    nextJoin := 1
    grants := []
    nextGrant := 1
    downlink := []
    clock := Clock.cold
    plans := Vector.replicate 8 Plan.cold
    checks := []
    nextSerial := 0
    links := coldLinks
    desks := .all Desk.cold
    settings := Settings.cold
    ports := Ports.cold
    supply := .inService
    coldPending := false
    mode := Mode.ofStrap strap
    cause := .cold
    restartSeen := .all false
    restartDue := false
    due := []
    pending := [] }

/-- The machine right after reset: a cold start taken with the COMMISSION strap released, so in YARD mode (R179, R180).
DESIGN CHOICE, unsafe: that reset is a cold start that has acted, and that the strap is released (log 1). -/
def State.reset : State := State.cold false

end Sys2Proof.Machine
end

