-- ==== Sys2Proof/Machine/Flags.lean ====
section
/-! DEFINITION. The flags of the part: sets of rights (R10), the changed flag's rule (R21), and what a record's state makes
of the conditions that condition events test (R161). -/

namespace Sys2Proof.Machine

open Sys2Proof

/-- Whether a right is in a set of rights. -/
def Rights.has (r : Rights) : Right → Bool
  | .defrost => r.defrost
  | .check => r.check
  | .hold => r.hold

/-- The rights present in both of two sets: a right removed at either level is absent (R10). -/
def Rights.inter (a b : Rights) : Rights :=
  { defrost := a.defrost && b.defrost, check := a.check && b.check, hold := a.hold && b.hold }

/-- A record less what the changed flag does not follow: the seen and changed flags themselves (R21), and the door history
and alarm mark, which are no fields of Table 1-2 (R47). -/
def TrailerRecord.tracked (r : TrailerRecord) : TrailerRecord :=
  { r with doorHistory := none, alarmMark := false, seen := false, changed := false }

/-- `new`, with the changed flag set where some field of Table 1-2 differs from `old` (R21). Counts that the second tick
advances are written past this rule, by `State.tickRecords`. -/
def TrailerRecord.marking (old new : TrailerRecord) : TrailerRecord :=
  if new.tracked = old.tracked then new else { new with changed := true }

/-- The kind of the newest entry of a chain, the effective activity (R76). A placed record's chain is never empty (R75). -/
def effectiveOf (chain : List ChainEntry) : Activity :=
  match chain.getLast? with
  | some e => e.kind
  | none => .cool

/-- The effective activity of a record (R76). -/
def TrailerRecord.effective (r : TrailerRecord) : Activity := effectiveOf r.chain

/-- Whether a record's chain holds an activity. -/
def TrailerRecord.holds (r : TrailerRecord) (k : Activity) : Bool := r.chain.any fun e => e.kind = k

/-- Whether a record's chain is exactly [COOL] (R98). -/
def TrailerRecord.atBase (r : TrailerRecord) : Bool := r.chain.map ChainEntry.kind = [.cool]

/-- Whether a record's defrost is running, paused or absent (R85). -/
def TrailerRecord.defrostState (r : TrailerRecord) : DefrostState :=
  if r.effective = .defrost then .running else if r.holds .defrost then .paused else .absent

end Sys2Proof.Machine
end

