-- ==== Sys2Proof/Machine/Ops.lean ====
section
/-! DEFINITION. The named reads and writes of the tables in State: records, bays, feeders, desks and ports. -/

namespace Sys2Proof.Machine

open Sys2Proof

/-- Every record index, lowest first. -/
def allRecords : List RecIdx := List.finRange 48

/-- The placed record at an index; none where it is free. -/
def State.record? (s : State) (i : RecIdx) : Option TrailerRecord := s.records[i]

/-- The pool with one record replaced. -/
def State.setRecord (s : State) (i : RecIdx) (r : Option TrailerRecord) : State :=
  { s with records := s.records.set i r }

/-- Changes a placed record, and sets its changed flag where R21 has it set. A free record stays free. -/
def State.updRecord (s : State) (i : RecIdx) (f : TrailerRecord → TrailerRecord) : State :=
  match s.record? i with
  | none => s
  | some r => s.setRecord i (some (r.marking (f r)))

/-- The bay entry at an address. -/
def State.bayAt (s : State) (b : BayAddr) : BayEntry := s.bays[b.zone][b.bay]

/-- The Bay Maps with one entry replaced. -/
def State.setBay (s : State) (b : BayAddr) (e : BayEntry) : State :=
  { s with bays := s.bays.set b.zone (s.bays[b.zone].set b.bay e) }

/-- The zone entry a record's parameters are read from: that of the zone it now stands in (R3, R16). -/
def State.zoneOf (s : State) (r : TrailerRecord) : Zone := s.zones[r.bay.zone]

/-- The effective rights of a bay as the map now gives them (R10). -/
def State.rightsAt (s : State) (b : BayAddr) : Rights := s.zones[b.zone].rights.inter (s.bayAt b).rights

/-- The placed record that holds a tag (R29). -/
def State.findTag (s : State) (t : Tag) : Option RecIdx :=
  allRecords.find? fun i => (s.record? i).any fun r => r.tag = t

/-- The lowest-indexed free record (R15). -/
def State.firstFree (s : State) : Option RecIdx := allRecords.find? fun i => (s.record? i).isNone

/-- A feeder's budget and granted sum replaced. -/
def State.setFeeder (s : State) (f : FeederNo) (x : Feeder) : State := { s with feeders := s.feeders.set f x }

/-- A feeder's granted sum raised by a load (R91). -/
def State.charge (s : State) (f : FeederNo) (load : Nat) : State :=
  s.setFeeder f { s.feeders[f] with granted := s.feeders[f].granted + load }

/-- A feeder's granted sum lowered by a load (R91). -/
def State.discharge (s : State) (f : FeederNo) (load : Nat) : State :=
  s.setFeeder f { s.feeders[f] with granted := s.feeders[f].granted - load }

/-- What the Event Link and Notice Unit keeps for a master. -/
def State.desk (s : State) (m : Master) : Desk := s.desks.get m

/-- A master's desk replaced. -/
def State.setDesk (s : State) (m : Master) (d : Desk) : State := { s with desks := s.desks.set m d }

/-- The state of a port. -/
def State.port (s : State) (p : PortId) : Port := s.ports.get p

/-- A port's state replaced. -/
def State.setPort (s : State) (p : PortId) (x : Port) : State := { s with ports := s.ports.set p x }

/-- A port's activity replaced. -/
def State.setActivity (s : State) (p : PortId) (a : PortActivity) : State :=
  s.setPort p { s.port p with activity := a }

/-- Yard time as the clock now stands (R132). -/
def State.now (s : State) : YardTime := s.clock.time

/-- The subject of an event about a placed record: its tag and the bay it now stands in (R153). -/
def State.subjectOf (s : State) (i : RecIdx) : EventSubject :=
  match s.record? i with
  | some r => .trailer r.tag r.bay i
  | none => .absent

end Sys2Proof.Machine
end

