-- ==== Sys2Proof/Machine/Notices.lean ====
section
/-! DEFINITION. The Event Link and Notice Unit (chapter 9), and the adding of check items it asks for (R140). The two stand
together because an event may ask for an item and an item refused on a full list raises an event. -/

namespace Sys2Proof.Machine

open Sys2Proof

/-! ## Event kinds -/

/-- The number of an event kind (Table 9-1). -/
def EventKind.index : EventKind → Fin 16
  | .frostDemand => 0
  | .defrostDone => 1
  | .defrostStopped => 2
  | .doorOpenLong => 3
  | .doorDamaged => 4
  | .fuelLow => 5
  | .refuelSeen => 6
  | .unitSilent => 7
  | .unknownUnit => 8
  | .cmdUnconfirmed => 9
  | .checkEscalated => 10
  | .checkListFull => 11
  | .roundMatch => 12
  | .rightsRefusal => 13
  | .intakeOverrun => 14
  | .feederShort => 15

/-- The kind of event a detail belongs to (Table 9-1). -/
def Detail.kind : Detail → EventKind
  | .frostDemand _ _ _ => .frostDemand
  | .frostDemandManual _ => .frostDemand
  | .defrostDone _ _ => .defrostDone
  | .defrostStopped _ _ _ => .defrostStopped
  | .doorOpenLong _ => .doorOpenLong
  | .doorDamaged _ => .doorDamaged
  | .fuelLow _ _ => .fuelLow
  | .refuelSeen _ => .refuelSeen
  | .unitSilent _ => .unitSilent
  | .unknownUnit _ => .unknownUnit
  | .cmdUnconfirmed _ _ _ => .cmdUnconfirmed
  | .checkEscalated _ _ _ => .checkEscalated
  | .checkListFull _ _ => .checkListFull
  | .roundMatch _ => .roundMatch
  | .rightsRefusal _ _ => .rightsRefusal
  | .intakeOverrun _ _ => .intakeOverrun
  | .feederShort _ _ _ _ => .feederShort

/-- The four condition events (Table 9-1). -/
def EventKind.isCondition : EventKind → Bool
  | .doorOpenLong | .fuelLow | .unitSilent | .feederShort => true
  | .frostDemand | .defrostDone | .defrostStopped | .doorDamaged | .refuelSeen | .unknownUnit | .cmdUnconfirmed
  | .checkEscalated | .checkListFull | .roundMatch | .rightsRefusal | .intakeOverrun => false

/-! ## Attention lines -/

/-- The line of a master in LEVEL mode: asserted while notices wait and no window is open (R162). -/
def Desk.levelLine (d : Desk) : Bool := !d.notices.isEmpty && d.window.isNone

/-- The desk after a change that affects its line, where `pulse` says that the change is a cause of a pulse. In LEVEL mode
the line follows R162; in PULSE mode a cause asserts it until `pulseEnd` (R163). -/
def Desk.drive (mode : AttentionMode) (pulse : Bool) (d : Desk) : Desk :=
  match mode with
  | .level => { d with line := d.levelLine }
  | .pulse => { d with line := d.line || pulse }

/-! ## Notices -/

/-- The notice an event makes, before the lost-before mark (R158). -/
def Event.notice (e : Event) (stamp : YardTime) : Notice :=
  { tag := match e.subject with
      | .trailer t _ _ => some t
      | .tagAlone t => some t
      | .absent => none
    bay := match e.subject with
      | .trailer _ b _ => some b
      | .tagAlone _ => none
      | .absent => none
    detail := e.detail
    stamp := stamp
    lostBefore := false
    record := match e.subject with
      | .trailer _ _ i => if e.detail.kind.isCondition then some i else none
      | .tagAlone _ => none
      | .absent => none }

/-- A notice offered to a queue: appended, or dropped with the lost marker set (R159), and the line driven. -/
def Desk.offer (mode : AttentionMode) (n : Notice) (d : Desk) : Desk :=
  if d.notices.length < Config.noticeDepth then
    Desk.drive mode d.window.isNone { d with notices := d.notices ++ [{ n with lostBefore := d.lost }], lost := false }
  else { d with lost := true }

/-- Offers an event's notice to one master, if its link entry names that master (R156 step 1). -/
def State.offerTo (e : Event) (m : Master) (s : State) : State :=
  if s.links[e.detail.kind.index].notify.get m then
    s.setDesk m ((s.desk m).offer (s.settings.attention.get m) (e.notice s.now))
  else s

/-- Offers an event's notice to every master its link entry names (R156 step 1). -/
def State.notify (e : Event) (s : State) : State :=
  ((s.offerTo e .ofc).offerTo e .cab).offerTo e .pat

/-! ## Check items asked for -/

/-- A check item as it is asked for (R140). -/
structure CheckAsk where
  tag : Tag
  record : RecIdx
  kind : CheckKind
  priority : Priority
  origin : Origin
  createdAt : YardTime
  deriving DecidableEq, Repr

/-- The new item an ask makes: PENDING, with no issue and reissue count 0 (R140). -/
def CheckAsk.item (q : CheckAsk) (serial : Nat) : CheckItem :=
  { tag := q.tag, record := q.record, kind := q.kind, priority := q.priority, origin := q.origin, state := .pending,
    createdAt := q.createdAt, reissues := 0, serial := serial }

/-- What came of asking for a check item (R140). -/
inductive AskOutcome where
  | merged | appended | refused
  deriving DecidableEq, Repr

/-- Whether an item is for a trailer and kind (R140). -/
def CheckItem.isFor (it : CheckItem) (t : Tag) (k : CheckKind) : Bool := it.tag = t && it.kind = k

/-- The higher of two priorities, URGENT above NORMAL (R140). -/
def Priority.higher : Priority → Priority → Priority
  | .urgent, _ => .urgent
  | .normal, p => p

/-- Merges, appends or turns away an item asked for, raising nothing (R140). -/
def State.tryAdd (q : CheckAsk) (s : State) : State × AskOutcome :=
  if s.checks.any (fun it => it.isFor q.tag q.kind) then
    ({ s with checks := s.checks.map fun it =>
        if it.isFor q.tag q.kind then { it with priority := it.priority.higher q.priority } else it }, .merged)
  else if s.checks.length < Config.checkListSize then
    ({ s with checks := s.checks ++ [q.item s.nextSerial], nextSerial := s.nextSerial + 1 }, .appended)
  else (s, .refused)

/-- The urgent item an event's link entry asks for: none where the action is NONE or the subject is no trailer (R157). -/
def State.urgentAsk (e : Event) (s : State) : Option CheckAsk :=
  match e.subject with
  | .trailer t _ i =>
    let ask (k : CheckKind) : CheckAsk :=
      { tag := t, record := i, kind := k, priority := .urgent, origin := .event e.detail.kind, createdAt := s.now }
    match s.links[e.detail.kind.index].action with
    | .none => none
    | .doorCheckUrgent => some (ask .door)
    | .fuelCheckUrgent => some (ask .fuel)
  | .tagAlone _ => none
  | .absent => none

/-- Takes a CHECK_LIST_FULL event: its notices, then its action, whose item raises no further CHECK_LIST_FULL (R140). -/
def State.raiseListFull (e : Event) (s : State) : State :=
  let s := s.notify e
  match s.urgentAsk e with
  | none => s
  | some q => (s.tryAdd q).1

/-- Asks for a check item; one that is refused on a full list raises CHECK_LIST_FULL (R140). -/
def State.askItem (q : CheckAsk) (s : State) : State × AskOutcome :=
  match s.tryAdd q with
  | (s, .refused) => (s.raiseListFull ⟨s.subjectOf q.record, .checkListFull q.kind q.origin⟩, .refused)
  | (s, outcome) => (s, outcome)

/-- Raises an event: its notices first, then its link action (R156, R157). -/
def State.raise (e : Event) (s : State) : State :=
  match e.detail.kind with
  | .checkListFull => s.raiseListFull e
  | _ =>
    let s := s.notify e
    match s.urgentAsk e with
    | none => s
    | some q => (s.askItem q).1

/-- Raises an event about a placed record (R153). -/
def State.raiseFor (i : RecIdx) (d : Detail) (s : State) : State := s.raise ⟨s.subjectOf i, d⟩

/-! ## Fetching, windows and attention modes -/

/-- Whether a record's queue entry stands and is pinned (R93). -/
def State.pinned (s : State) (i : RecIdx) : Bool :=
  s.queue.any fun e => e.record = i && Config.pinCount ≤ e.passCount

/-- Whether the condition of a condition event holds now for a placed record (R161, Table 9-1). -/
def State.conditionHolds (s : State) (k : EventKind) (i : RecIdx) (r : TrailerRecord) : Bool :=
  match k with
  | .doorOpenLong => r.doorOpenSince.isSome
  | .fuelLow => r.fuelLow
  | .unitSilent => r.unitState = .stale
  | .feederShort => s.pinned i
  | .frostDemand | .defrostDone | .defrostStopped | .doorDamaged | .refuelSeen | .unknownUnit | .cmdUnconfirmed
  | .checkEscalated | .checkListFull | .roundMatch | .rightsRefusal | .intakeOverrun => false

/-- The still-present field of a notice: present on condition notices, evaluated at the fetch (R161). -/
def State.stillPresent (s : State) (n : Notice) : Option StillPresent :=
  n.record.map fun i =>
    match s.record? i with
    | none => .gone
    | some r =>
      if some r.tag ≠ n.tag then .gone
      else if s.conditionHolds n.detail.kind i r then .present else .cleared

/-- A notice as it is returned (R160). -/
def State.fetched (s : State) (n : Notice) : FetchedNotice :=
  { tag := n.tag, bay := n.bay, detail := n.detail, stamp := n.stamp, lostBefore := n.lostBefore,
    stillPresent := s.stillPresent n }

/-- FETCH_NOTICE (R160): the head notice leaves the queue; the reply gives the number left and the lost marker. -/
def State.doFetch (m : Master) (s : State) : State × MasterReply :=
  let d := s.desk m
  match d.notices with
  | [] => (s, .empty (.notice none 0 d.lost))
  | n :: rest =>
    (s.setDesk m (Desk.drive (s.settings.attention.get m) false { d with notices := rest }),
      .done (.notice (some (s.fetched n)) rest.length d.lost))

/-- HOLD_NOTICES (R164): the window opens, or its minute runs again. -/
def State.doHoldNotices (m : Master) (s : State) : State × MasterReply :=
  (s.setDesk m (Desk.drive (s.settings.attention.get m) false { s.desk m with window := some 0 }), .done .nothing)

/-- The close of an open window: the line acts for the master's mode, with one pulse if notices wait (R162, R163). -/
def State.closeWindow (m : Master) (s : State) : State :=
  let d := s.desk m
  match d.window with
  | none => s
  | some _ =>
    s.setDesk m (Desk.drive (s.settings.attention.get m) (!d.notices.isEmpty) { d with window := none })

/-- RELEASE_NOTICES (R164): closes the window; with none open it changes nothing. -/
def State.doReleaseNotices (m : Master) (s : State) : State × MasterReply := (s.closeWindow m, .done .nothing)

/-- A change of a master's attention mode: to LEVEL the line takes the state R162 gives and any pulse ends; to PULSE the line
is released (R163). A value equal to the one held changes nothing (R174). -/
def State.setAttention (m : Master) (mode : AttentionMode) (s : State) : State :=
  if s.settings.attention.get m = mode then s
  else
    let d := s.desk m
    let line := match mode with
      | .level => d.levelLine
      | .pulse => false
    { s.setDesk m { d with line := line } with
      settings := { s.settings with attention := s.settings.attention.set m mode } }

/-- The end of a pulse, 10 ms after its last cause: the line is released (R163). In LEVEL mode no pulse is in progress. -/
def State.endPulse (m : Master) (s : State) : State :=
  match s.settings.attention.get m with
  | .level => s
  | .pulse => s.setDesk m { s.desk m with line := false }

/-- LINK_SET (R155). -/
def State.doLinkSet (k : EventKind) (e : LinkEntry) (s : State) : State × MasterReply :=
  ({ s with links := s.links.set k.index e }, .done .nothing)

/-- LINK_GET (R154). -/
def State.doLinkGet (k : EventKind) (s : State) : State × MasterReply := (s, .done (.link s.links[k.index]))

end Sys2Proof.Machine
end

