-- ==== Sys2Proof/Machine/Commands.lean ====
section
/-! DEFINITION. The Unit Command Queue (chapter 7): the command slot, the Downlink Queue, sending, confirmation, timeout and
the mode-echo re-queue. -/

namespace Sys2Proof.Machine

open Sys2Proof

/-- The wanted command of an activity (Table 5-2). -/
def Activity.wanted : Activity → Command
  | .cool => .coolResume
  | .defrost => .heatOn
  | .doorHold => .fansOff
  | .serviceHold => .standby

/-- The expected mode echo of an activity (Table 5-2). -/
def Activity.expected : Activity → ModeEcho
  | .cool => .cool
  | .defrost => .heat
  | .doorHold => .fansOff
  | .serviceHold => .standby

/-- Makes a command the queued command of a record whose slot holds none, and appends the record to the Downlink Queue
(R121). -/
def State.queueCommand (i : RecIdx) (c : Command) (s : State) : State :=
  let s := s.updRecord i fun r => { r with slot := .queued c }
  { s with downlink := s.downlink ++ [i] }

/-- The hand-off of a wanted command (R122, Table 7-2). In COMMISSION mode it is discarded (R130). -/
def State.handOff (i : RecIdx) (w : Command) (s : State) : State :=
  match s.mode with
  | .commission => s
  | .yard =>
    match s.record? i with
    | none => s
    | some r =>
      match r.slot with
      | .empty => s.queueCommand i w
      | .queued _ => s.updRecord i fun r => { r with slot := .queued w }
      | .sent f => if f.command = w then s else s.updRecord i fun r => { r with slot := .sentNext f w }
      | .sentNext f _ =>
        if f.command = w then s.updRecord i fun r => { r with slot := .sent f }
        else s.updRecord i fun r => { r with slot := .sentNext f w }

/-- The command a UNT reply carries: the head of the Downlink Queue is sent (R123). In COMMISSION mode every reply carries
none (R130). The last arm is a queue that names a record with nothing queued, which no run reaches (R121). -/
def State.sendHead (s : State) : State × Option SentCommand :=
  match s.mode with
  | .commission => (s, none)
  | .yard =>
    match s.downlink with
    | [] => (s, none)
    | i :: rest =>
      let s := { s with downlink := rest }
      match s.record? i with
      | none => (s, none)
      | some r =>
        match r.slot with
        | .queued c =>
          let n := r.sequence + 1
          (s.updRecord i fun r =>
              { r with sequence := n, slot := .sent { command := c, sequence := n, sentAt := s.now, seconds := 0 } },
            some { tag := r.tag, command := c, sequence := n })
        | .empty => (s, none)
        | .sent _ => (s, none)
        | .sentNext _ _ => (s, none)

/-- The command in flight leaves the slot; a next command is queued at the tail (R125, R126). -/
def State.clearFlight (i : RecIdx) (s : State) : State :=
  match s.record? i with
  | none => s
  | some r =>
    match r.slot with
    | .sent _ => s.updRecord i fun r => { r with slot := .empty }
    | .sentNext _ next => s.queueCommand i next
    | .empty => s
    | .queued _ => s

/-- The command in flight of a slot. -/
def Slot.flight : Slot → Option InFlight
  | .sent f => some f
  | .sentNext f _ => some f
  | .empty => none
  | .queued _ => none

/-- Step 6 of an accepted report: the confirmation is matched by number against the command in flight (R125). A value above
15 is read as absent (R40), so it matches nothing. -/
def State.matchConfirmation (i : RecIdx) (confirmation : Option Nat) (s : State) : State :=
  match s.record? i, confirmation with
  | some r, some n =>
    match r.slot.flight with
    | some f => if n = f.sequence.val then s.clearFlight i else s
    | none => s
  | _, _ => s

/-- Step 7 of an accepted report: an echo that differs from the expected mode, with an EMPTY slot, queues the wanted command
(R128). In COMMISSION mode nothing is queued (R130). -/
def State.requeueOnEcho (i : RecIdx) (echo : ModeEcho) (s : State) : State :=
  match s.mode, s.record? i with
  | .yard, some r =>
    if r.slot = .empty ∧ echo ≠ r.effective.expected then s.queueCommand i r.effective.wanted else s
  | _, _ => s

/-- The timeout of a command in flight (R126): CMD_UNCONFIRMED is raised, then the slot is cleared. -/
def State.timeoutCommand (i : RecIdx) (s : State) : State :=
  match (s.record? i).bind fun r => r.slot.flight with
  | none => s
  | some f => (s.raiseFor i (.cmdUnconfirmed f.command f.sequence f.sentAt)).clearFlight i

/-- The Unit Command Queue's part of a release: the slot is emptied and the entry leaves the queue (R129). -/
def State.forgetCommands (i : RecIdx) (s : State) : State :=
  let s := s.updRecord i fun r => { r with slot := .empty }
  { s with downlink := s.downlink.filter fun j => j ≠ i }

end Sys2Proof.Machine
end

