-- ==== Sys2Proof/Machine/Clock.lean ====
section
/-! DEFINITION. The Yard Clock and the Round Plans (sections 8.1 and 8.2). -/

namespace Sys2Proof.Machine

open Sys2Proof

/-! ## The Yard Clock -/

/-- The length of a month in a year (Table 8-2). -/
def monthLength (year month : Nat) : Nat :=
  match month with
  | 2 => if year % 4 = 0 then 29 else 28
  | 4 | 6 | 9 | 11 => 30
  | _ => 31

/-- A weekday's next (R132). -/
def nextWeekday (w : Nat) : Nat := if w < 7 then w + 1 else 1

/-- The start of the next day (R132). -/
def YardTime.nextDay (t : YardTime) : YardTime :=
  let t := { t with hour := 0, minute := 0, second := 0 }
  if t.day < monthLength t.year t.month then { t with day := t.day + 1 }
  else if t.month < 12 then { t with day := 1, month := t.month + 1 }
  else { t with day := 1, month := 1, year := if t.year < 99 then t.year + 1 else 0 }

/-- The start of the next minute, with the carries of R132. -/
def Clock.nextMinute (c : Clock) : Clock :=
  if c.time.minute < 59 then { c with time := { c.time with minute := c.time.minute + 1, second := 0 } }
  else if c.time.hour < 23 then { c with time := { c.time with hour := c.time.hour + 1, minute := 0, second := 0 } }
  else { c with time := c.time.nextDay, weekday := nextWeekday c.weekday }

/-- Whether the next tick carries the second into the minute (R132). -/
def Clock.aboutToRoll (c : Clock) : Bool := 59 ≤ c.time.second

/-- One second on (R132). -/
def Clock.tick (c : Clock) : Clock :=
  if c.aboutToRoll then c.nextMinute else { c with time := { c.time with second := c.time.second + 1 } }

/-- Whether the fields of a CLOCK_SET lie in their ranges (Table 8-1, R134). -/
def YardTime.inRange (t : YardTime) : Bool :=
  t.year ≤ 99 && 1 ≤ t.month && t.month ≤ 12 && 1 ≤ t.day && t.day ≤ monthLength t.year t.month && t.hour ≤ 23 &&
    t.minute ≤ 59 && t.second ≤ 59

/-- Whether one stamp is earlier than another, as a whole date and time, year first (R142). -/
def YardTime.earlier (a b : YardTime) : Bool :=
  let lex (x y : Nat) (rest : Bool) : Bool := x < y || (x = y && rest)
  lex a.year b.year <| lex a.month b.month <| lex a.day b.day <| lex a.hour b.hour <| lex a.minute b.minute <|
    a.second < b.second

/-! ## Round Plans -/

/-- Whether a match is met by the clock as a rollover leaves it (R137). -/
def PlanMatch.met (p : PlanMatch) (c : Clock) : Bool :=
  match p with
  | .every period => (c.time.hour * 60 + c.time.minute) % period = 0
  | .atTime minute hour weekday day range =>
    match range with
    | .m => c.time.minute = minute
    | .hm => c.time.hour = hour && c.time.minute = minute
    | .whm => c.weekday = weekday && c.time.hour = hour && c.time.minute = minute
    | .dhm => c.time.day = day && c.time.hour = hour && c.time.minute = minute

/-- The kind of item a plan asks for (R138). -/
def PlanKind.checkKind : PlanKind → CheckKind
  | .doorRound => .door
  | .fuelRound => .fuel

/-- Whether a plan asks for an item for a trailer: a FUEL_ROUND plan asks for DIESEL trailers only (R138). -/
def PlanKind.covers (k : PlanKind) (r : TrailerRecord) : Bool :=
  match k with
  | .doorRound => true
  | .fuelRound => r.source = .diesel

/-- What a matching plan asks for at one bay (R138). -/
def State.roundBay (p : Fin 8) (plan : Plan) (s : State) (b : BayAddr) : State :=
  match (s.bayAt b).occupant with
  | none => s
  | some i =>
    match s.record? i with
    | none => s
    | some r =>
      if plan.kind.covers r then
        (s.askItem { tag := r.tag, record := i, kind := plan.kind.checkKind, priority := .normal, origin := .round p,
                     createdAt := s.now }).1
      else s

/-- The bays of the zones of a mask, in rising zone number and then rising bay number (R138). -/
def maskBays (mask : BitVec 8) : List BayAddr :=
  ((List.finRange 8).filter fun z => mask.getLsbD z.val).flatMap fun z => (List.finRange 16).map fun b => ⟨z, b⟩

/-- A matching plan: ROUND_MATCH, then an item asked for at each bay of its zones (R138). -/
def State.roundMatch (p : Fin 8) (plan : Plan) (s : State) : State :=
  (maskBays plan.mask).foldl (State.roundBay p plan) (s.raise ⟨.absent, .roundMatch p⟩)

/-- One plan tested at a rollover (R135, R137). -/
def State.testPlan (s : State) (p : Fin 8) : State :=
  let plan := s.plans[p]
  if plan.active ∧ plan.rule.met s.clock then s.roundMatch p plan else s

/-- The Round Plans tested at a minute rollover, in plan-number order, if the clock is valid and the part in service
(R135). -/
def State.testPlans (s : State) : State :=
  if s.clock.valid ∧ s.supply = .inService then (List.finRange 8).foldl State.testPlan s else s

/-! ## Requests -/

/-- CLOCK_SET (R134): every field is written and the clock is valid; no plan is tested. -/
def State.doClockSet (t : YardTime) (weekday : Nat) (s : State) : State × MasterReply :=
  ({ s with clock := { time := t, weekday := weekday, valid := true } }, .done .nothing)

/-- CLOCK_TRIM (R134): refused BUSY while the clock is not valid; a forward move is a minute rollover. -/
def State.doClockTrim (s : State) : State × MasterReply :=
  if s.clock.valid then
    if 30 ≤ s.clock.time.second then ({ s with clock := s.clock.nextMinute }.testPlans, .done .nothing)
    else ({ s with clock := { s.clock with time := { s.clock.time with second := 0 } } }, .done .nothing)
  else (s, .busy)

/-- CLOCK_GET (R133). -/
def State.doClockGet (s : State) : State × MasterReply := (s, .done (.clock s.clock))

/-- PLAN_SET (R136). -/
def State.doPlanSet (p : Fin 8) (plan : Plan) (s : State) : State × MasterReply :=
  ({ s with plans := s.plans.set p plan }, .done .nothing)

/-- PLAN_GET (R136). -/
def State.doPlanGet (p : Fin 8) (s : State) : State × MasterReply := (s, .done (.plan s.plans[p]))

end Sys2Proof.Machine
end

