-- ==== Sys2Proof/Machine/Operands.lean ====
section
/-! DEFINITION. The operands of the commands as they cross a link: the request kinds with their ports and body lengths
(Table 10-6), the fields of every request body read and range-tested (R168, R171, R173, and the RANGE conditions of each
request's own rule), and the same bodies written from a request. -/

namespace Sys2Proof.Machine

open Sys2Proof

/-! ## Request kinds -/

/-- The kinds of Table 10-6. -/
inductive Kind where
  | unitReport | poll | zoneSet | zoneGet | baySet | place | move | release | recordGet | recordEdit | collect
  | scanChanged | sweepSeen | flushTags | clockSet | clockTrim | clockGet | planSet | planGet | linkSet | linkGet
  | configSet | configGet | defrostRequest | defrostCancel | holdSet | holdClear | fuelPost | checkAdd | checkClose
  | checkList | queueGet | feederGet | fetchNotice | holdNotices | releaseNotices | statusGet | yardRestart | setBudget
  | revoke | nextCheck
  deriving DecidableEq, Repr

/-- The kind byte of a kind (Table 10-6). -/
def Kind.code : Kind → Byte
  | .unitReport => 1
  | .poll => 2
  | .zoneSet => 16
  | .zoneGet => 17
  | .baySet => 18
  | .place => 19
  | .move => 20
  | .release => 21
  | .recordGet => 22
  | .recordEdit => 23
  | .collect => 24
  | .scanChanged => 25
  | .sweepSeen => 26
  | .flushTags => 27
  | .clockSet => 28
  | .clockTrim => 29
  | .clockGet => 30
  | .planSet => 31
  | .planGet => 32
  | .linkSet => 33
  | .linkGet => 34
  | .configSet => 35
  | .configGet => 36
  | .defrostRequest => 37
  | .defrostCancel => 38
  | .holdSet => 39
  | .holdClear => 40
  | .fuelPost => 41
  | .checkAdd => 42
  | .checkClose => 43
  | .checkList => 44
  | .queueGet => 45
  | .feederGet => 46
  | .fetchNotice => 47
  | .holdNotices => 48
  | .releaseNotices => 49
  | .statusGet => 50
  | .yardRestart => 51
  | .setBudget => 52
  | .revoke => 53
  | .nextCheck => 54

/-- The kind a kind byte names; none is answered UNKNOWN_KIND (R168). -/
def Kind.ofCode (b : Byte) : Option Kind :=
  match b.toNat with
  | 1 => some .unitReport
  | 2 => some .poll
  | 16 => some .zoneSet
  | 17 => some .zoneGet
  | 18 => some .baySet
  | 19 => some .place
  | 20 => some .move
  | 21 => some .release
  | 22 => some .recordGet
  | 23 => some .recordEdit
  | 24 => some .collect
  | 25 => some .scanChanged
  | 26 => some .sweepSeen
  | 27 => some .flushTags
  | 28 => some .clockSet
  | 29 => some .clockTrim
  | 30 => some .clockGet
  | 31 => some .planSet
  | 32 => some .planGet
  | 33 => some .linkSet
  | 34 => some .linkGet
  | 35 => some .configSet
  | 36 => some .configGet
  | 37 => some .defrostRequest
  | 38 => some .defrostCancel
  | 39 => some .holdSet
  | 40 => some .holdClear
  | 41 => some .fuelPost
  | 42 => some .checkAdd
  | 43 => some .checkClose
  | 44 => some .checkList
  | 45 => some .queueGet
  | 46 => some .feederGet
  | 47 => some .fetchNotice
  | 48 => some .holdNotices
  | 49 => some .releaseNotices
  | 50 => some .statusGet
  | 51 => some .yardRestart
  | 52 => some .setBudget
  | 53 => some .revoke
  | 54 => some .nextCheck
  | _ => none

/-- Whether a kind is allowed on a port (Table 10-6). -/
def Kind.allowedOn (k : Kind) (p : PortId) : Bool :=
  match k with
  | .unitReport | .poll => p = .unt
  | .recordGet | .defrostRequest | .holdSet | .holdClear | .fuelPost | .checkClose => p = .ofc || p = .pat
  | .queueGet | .feederGet => p = .ofc || p = .cab
  | .fetchNotice | .holdNotices | .releaseNotices | .statusGet => p ≠ .unt
  | .setBudget | .revoke => p = .cab
  | .nextCheck => p = .pat
  | .zoneSet | .zoneGet | .baySet | .place | .move | .release | .recordEdit | .collect | .scanChanged | .sweepSeen
  | .flushTags | .clockSet | .clockTrim | .clockGet | .planSet | .planGet | .linkSet | .linkGet | .configSet
  | .configGet | .defrostCancel | .checkAdd | .checkList | .yardRestart => p = .ofc

/-- The body length of a kind: the sum of its fields' widths (R168, R173). -/
def Kind.bodyLength : Kind → Nat
  | .unitReport => 16
  | .poll => 0
  | .zoneSet => 15
  | .zoneGet => 1
  | .baySet => 4
  | .place => 10
  | .move => 6
  | .release => 4
  | .recordGet => 5
  | .recordEdit => 10
  | .collect => 5
  | .scanChanged => 1
  | .sweepSeen => 0
  | .flushTags => 0
  | .clockSet => 7
  | .clockTrim => 0
  | .clockGet => 0
  | .planSet => 11
  | .planGet => 1
  | .linkSet => 3
  | .linkGet => 1
  | .configSet => 2
  | .configGet => 0
  | .defrostRequest => 5
  | .defrostCancel => 5
  | .holdSet => 5
  | .holdClear => 5
  | .fuelPost => 7
  | .checkAdd => 7
  | .checkClose => 7
  | .checkList => 1
  | .queueGet => 1
  | .feederGet => 2
  | .fetchNotice => 0
  | .holdNotices => 0
  | .releaseNotices => 0
  | .statusGet => 0
  | .yardRestart => 0
  | .setBudget => 3
  | .revoke => 6
  | .nextCheck => 0

/-! ## Fields read from their bytes -/

/-- A two-byte number, high byte first (section 0.5.1). -/
def word16 (hi lo : Byte) : Nat := hi.toNat * 256 + lo.toNat

/-- A signed two-byte value, high byte first (R173). -/
def signed16 (hi lo : Byte) : Int := (hi ++ lo : BitVec 16).toInt

/-- A tag, high byte first (R173). -/
def tagOf (a b c d : Byte) : Tag := (a ++ b ++ c ++ d : BitVec 32)

/-- A number kept where it lies in a range (R9 step 2). -/
def within (lo hi n : Nat) : Option Nat := if lo ≤ n ∧ n ≤ hi then some n else none

/-- A temperature kept where it lies in a range. -/
def withinInt (lo hi n : Int) : Option Int := if lo ≤ n ∧ n ≤ hi then some n else none

/-- A yes / no byte, 1 or 0 (R173). -/
def flagOf (b : Byte) : Option Bool :=
  match b.toNat with
  | 0 => some false
  | 1 => some true
  | _ => none

/-- A number below a bound. -/
def finOf (n : Nat) (b : Byte) : Option (Fin n) := if h : b.toNat < n then some ⟨b.toNat, h⟩ else none

/-- A subset of {DEFROST, CHECK, HOLD}, bit 0 DEFROST (R173); any other bit names something else (R2, R5). -/
def rightsOf (b : Byte) : Option Rights :=
  if b.toNat < 8 then some ⟨b.getLsbD 0, b.getLsbD 1, b.getLsbD 2⟩ else none

/-- A subset of {OFC, CAB, PAT}, bit 0 OFC (R155, R173). -/
def notifyOf (b : Byte) : Option (PerMaster Bool) :=
  if b.toNat < 8 then some ⟨b.getLsbD 0, b.getLsbD 1, b.getLsbD 2⟩ else none

/-- A tag field: the zero tag is refused RANGE (R9, R27). -/
def tagField (a b c d : Byte) : Option Tag := if tagOf a b c d = 0 then none else some (tagOf a b c d)

/-- A bay address field (R5, R8). -/
def bayField (z b : Byte) : Option BayAddr := do
  let z ← finOf 8 z
  let b ← finOf 16 b
  pure ⟨z, b⟩

/-- A subject field, by its form byte (R172, Table 10-5). The last two bytes of a bay address are not tested. -/
def subjectField (form a b c d : Byte) : Option Subject :=
  match form.toNat with
  | 0 => (tagField a b c d).map .tag
  | 1 => (bayField a b).map .bay
  | _ => none

/-- A field that may be absent, by its presence byte: the value of an absent field is not tested (R173). -/
def optionalField {α : Type} (presence : Byte) (value : Option α) : Option (Option α) :=
  match presence.toNat with
  | 0 => some none
  | 1 => value.map some
  | _ => none

/-- A power source byte (Table 10-2). -/
def sourceOf (b : Byte) : Option Source :=
  match b.toNat with
  | 0 => some .shore
  | 1 => some .diesel
  | _ => none

/-- A check kind byte, by place in the list DOOR or FUEL (R139, R173). -/
def checkKindOf (b : Byte) : Option CheckKind :=
  match b.toNat with
  | 0 => some .door
  | 1 => some .fuel
  | _ => none

/-- A priority byte, by place in the list NORMAL or URGENT (R139, R173). -/
def priorityOf (b : Byte) : Option Priority :=
  match b.toNat with
  | 0 => some .normal
  | 1 => some .urgent
  | _ => none

/-- A plan kind byte, by place in the list DOOR_ROUND or FUEL_ROUND (R136, R173). -/
def planKindOf (b : Byte) : Option PlanKind :=
  match b.toNat with
  | 0 => some .doorRound
  | 1 => some .fuelRound
  | _ => none

/-- A collation byte, by place in the list M, HM, WHM or DHM (R136, R173). -/
def collationOf (b : Byte) : Option Collation :=
  match b.toNat with
  | 0 => some .m
  | 1 => some .hm
  | 2 => some .whm
  | 3 => some .dhm
  | _ => none

/-- A link action byte, by place in the list of R154 (R173). -/
def actionOf (b : Byte) : Option LinkAction :=
  match b.toNat with
  | 0 => some .none
  | 1 => some .doorCheckUrgent
  | 2 => some .fuelCheckUrgent
  | _ => none

/-- An event kind byte (R155, Table 9-1). -/
def eventKindOf (b : Byte) : Option EventKind :=
  match b.toNat with
  | 0 => some .frostDemand
  | 1 => some .defrostDone
  | 2 => some .defrostStopped
  | 3 => some .doorOpenLong
  | 4 => some .doorDamaged
  | 5 => some .fuelLow
  | 6 => some .refuelSeen
  | 7 => some .unitSilent
  | 8 => some .unknownUnit
  | 9 => some .cmdUnconfirmed
  | 10 => some .checkEscalated
  | 11 => some .checkListFull
  | 12 => some .roundMatch
  | 13 => some .rightsRefusal
  | 14 => some .intakeOverrun
  | 15 => some .feederShort
  | _ => none

/-- The seven periods of an EVERY plan (R136). -/
def periods : List Nat := [5, 10, 15, 30, 60, 120, 240]

/-- The match of a plan: the fields of the match not chosen are not tested (R136, R173). -/
def planMatchField (choice period minute hour weekday day range : Byte) : Option PlanMatch :=
  match choice.toNat with
  | 0 => if periods.contains period.toNat then some (.every period.toNat) else none
  | 1 => do
    let minute ← within 0 59 minute.toNat
    let hour ← within 0 23 hour.toNat
    let weekday ← within 1 7 weekday.toNat
    let day ← within 1 31 day.toNat
    let range ← collationOf range
    pure (.atTime minute hour weekday day range)
  | _ => none

/-- The result of a CHECK_CLOSE, which must suit its kind (R146): for DOOR the second byte is unused (R173). -/
def resultField (kind a b : Byte) : Option CloseResult := do
  match ← checkKindOf kind with
  | .door =>
    match a.toNat with
    | 0 => pure .secure
    | 1 => pure .ajar
    | 2 => pure .damaged
    | _ => none
  | .fuel =>
    let level ← within 0 100 a.toNat
    let refuelled ← flagOf b
    pure (.fuel level refuelled)

/-- The feeder field of FEEDER_GET: 0 to 3, or 4 for DIESEL (R173). -/
def feederChoiceOf (b : Byte) : Option FeederChoice :=
  if h : b.toNat < 4 then some (some ⟨b.toNat, h⟩) else if b.toNat = 4 then some none else none

/-- An attention mode byte (Table 10-7). -/
def attentionOf (b : Byte) : Option AttentionMode :=
  match b.toNat with
  | 0 => some .level
  | 1 => some .pulse
  | _ => none

/-- A setting number and its value (Table 10-7, R174). -/
def settingField (setting value : Byte) : Option SettingValue :=
  match setting.toNat with
  | 1 => (flagOf value).map .strict
  | 2 => (within 0 100 value.toNat).map .humidityFallback
  | 3 => some (.doorWeight value.toNat)
  | 4 => (within 5 120 value.toNat).map .checkTimeout
  | 5 => (attentionOf value).map (.attention .ofc)
  | 6 => (attentionOf value).map (.attention .cab)
  | 7 => (attentionOf value).map (.attention .pat)
  | _ => none

/-! ## Bodies read -/

/-- The fields of a ZONE_SET after its zone number (Table 1-1). -/
def zoneField : List Byte → Option Zone
  | [op, feeder, rights, t1, t0, dmax, c1, c0, hold, door, m1, m0, floor, load] => do
    let op ← flagOf op
    let feeder ← finOf 4 feeder
    let rights ← rightsOf rights
    let threshold ← within 50 65535 (word16 t1 t0)
    let dmax ← within 10 90 dmax.toNat
    let term ← withinInt 0 300 (signed16 c1 c0)
    let hold ← within 1 60 hold.toNat
    let door ← within 1 120 door.toNat
    let margin ← within 60 2880 (word16 m1 m0)
    let floor ← within 5 50 floor.toNat
    let load ← within 10 250 load.toNat
    pure { isOpen := op, feeder := feeder, rights := rights, frostThreshold := threshold, defrostMax := dmax,
           terminationTemp := term, holdLimit := hold, doorAlarm := door, fuelMargin := margin, fuelFloor := floor,
           defaultLoad := load }
  | _ => none

/-- The fields of a CLOCK_SET (R134). -/
def clockField : List Byte → Option (YardTime × Nat)
  | [yr, mo, dy, wd, hr, mi, se] =>
    let t : YardTime :=
      { year := yr.toNat, month := mo.toNat, day := dy.toNat, hour := hr.toNat, minute := mi.toNat, second := se.toNat }
    if t.inRange then (within 1 7 wd.toNat).map fun w => (t, w) else none
  | _ => none

/-- A master request read from its body, with every range test of its rule: none is answered RANGE (R9 step 2, R173). A kind of
UNT is none. -/
def Request.parse (k : Kind) (body : List Byte) : Option Request :=
  match k, body with
  | .zoneSet, z :: rest => do pure (.zoneSet (← finOf 8 z) (← zoneField rest))
  | .zoneGet, [z] => (finOf 8 z).map .zoneGet
  | .baySet, [z, b, rights, locked] => do pure (.baySet (← bayField z b) (← rightsOf rights) (← flagOf locked))
  | .place, [t3, t2, t1, t0, z, b, hasSource, source, hasLoad, load] => do
    pure (.place (← tagField t3 t2 t1 t0) (← bayField z b) (← optionalField hasSource (sourceOf source))
      (← optionalField hasLoad (within 10 250 load.toNat)))
  | .move, [t3, t2, t1, t0, z, b] => do pure (.move (← tagField t3 t2 t1 t0) (← bayField z b))
  | .release, [t3, t2, t1, t0] => (tagField t3 t2 t1 t0).map .release
  | .recordGet, [f, a, b, c, d] => (subjectField f a b c d).map .recordGet
  | .recordEdit, [f, a, b, c, d, hasLoad, load, hasOver, o1, o0] => do
    pure (.recordEdit (← subjectField f a b c d) (← optionalField hasLoad (within 10 250 load.toNat))
      (← optionalField hasOver (within 50 65535 (word16 o1 o0))))
  | .collect, [f, a, b, c, d] => (subjectField f a b c d).map .collect
  | .scanChanged, [start] => (finOf 48 start).map .scanChanged
  | .sweepSeen, [] => some .sweepSeen
  | .flushTags, [] => some .flushTags
  | .clockSet, fields => (clockField fields).map fun x => .clockSet x.1 x.2
  | .clockTrim, [] => some .clockTrim
  | .clockGet, [] => some .clockGet
  | .planSet, [p, active, kind, mask, choice, period, minute, hour, weekday, day, range] => do
    let p ← finOf 8 p
    let active ← flagOf active
    let kind ← planKindOf kind
    let rule ← planMatchField choice period minute hour weekday day range
    pure (.planSet p { active := active, kind := kind, mask := mask, rule := rule })
  | .planGet, [p] => (finOf 8 p).map .planGet
  | .linkSet, [k, notify, action] => do
    pure (.linkSet (← eventKindOf k) { notify := ← notifyOf notify, action := ← actionOf action })
  | .linkGet, [k] => (eventKindOf k).map .linkGet
  | .configSet, [setting, value] => (settingField setting value).map .configSet
  | .configGet, [] => some .configGet
  | .defrostRequest, [f, a, b, c, d] => (subjectField f a b c d).map .defrostRequest
  | .defrostCancel, [f, a, b, c, d] => (subjectField f a b c d).map .defrostCancel
  | .holdSet, [f, a, b, c, d] => (subjectField f a b c d).map .holdSet
  | .holdClear, [f, a, b, c, d] => (subjectField f a b c d).map .holdClear
  | .fuelPost, [f, a, b, c, d, level, refuelled] => do
    pure (.fuelPost (← subjectField f a b c d) (← within 0 100 level.toNat) (← flagOf refuelled))
  | .checkAdd, [f, a, b, c, d, kind, priority] => do
    pure (.checkAdd (← subjectField f a b c d) (← checkKindOf kind) (← priorityOf priority))
  | .checkClose, [t3, t2, t1, t0, kind, r1, r0] => do
    pure (.checkClose (← tagField t3 t2 t1 t0) (← resultField kind r1 r0))
  | .checkList, [start] => (within 0 63 start.toNat).map .checkList
  | .queueGet, [start] => (within 0 47 start.toNat).map .queueGet
  | .feederGet, [feeder, start] => do pure (.feederGet (← feederChoiceOf feeder) (← within 0 47 start.toNat))
  | .fetchNotice, [] => some .fetchNotice
  | .holdNotices, [] => some .holdNotices
  | .releaseNotices, [] => some .releaseNotices
  | .statusGet, [] => some .statusGet
  | .yardRestart, [] => some .yardRestart
  | .setBudget, [feeder, v1, v0] => (finOf 4 feeder).map fun f => .setBudget f (word16 v1 v0)
  | .revoke, [f, a, b, c, d, deferral] => do
    pure (.revoke (← subjectField f a b c d) (← within 0 240 deferral.toNat))
  | .nextCheck, [] => some .nextCheck
  | _, _ => none

/-- A unit report read from its 16 body bytes (R171, Table 10-2); the bytes of absent fields are ignored (R39). The arrival
stamp is put on by the Report Intake. -/
def UnitReport.parse (arrival : YardTime) : List Byte → Option UnitReport
  | [t3, t2, t1, t0, sequence, flags, echo, r1, r0, c1, c0, a1, a0, humidity, fuel, confirmation] =>
    some
      { tag := tagOf t3 t2 t1 t0
        sequence := sequence
        source := if flags.getLsbD 0 then .diesel else .shore
        door := if flags.getLsbD 1 then .opened else .closed
        echoCode := echo
        returnAir := signed16 r1 r0
        coil := signed16 c1 c0
        ambient := signed16 a1 a0
        humidity := if flags.getLsbD 2 then some humidity.toNat else none
        fuel := if flags.getLsbD 3 then some fuel.toNat else none
        confirmation := if flags.getLsbD 4 then some confirmation.toNat else none
        arrival := arrival }
  | _ => none

/-! ## Bodies written -/

/-- A number as one byte. -/
def byteOf (n : Nat) : Byte := BitVec.ofNat 8 n

/-- A number as two bytes, high byte first. -/
def bytes16 (n : Nat) : List Byte := [byteOf (n / 256), byteOf (n % 256)]

/-- A temperature as two bytes, two's complement, high byte first. -/
def signedBytes (x : Int) : List Byte :=
  let w : BitVec 16 := BitVec.ofInt 16 x
  [w.extractLsb' 8 8, w.extractLsb' 0 8]

/-- A tag as four bytes, high byte first. -/
def tagBytes (t : Tag) : List Byte := [t.extractLsb' 24 8, t.extractLsb' 16 8, t.extractLsb' 8 8, t.extractLsb' 0 8]

/-- A bay address as two bytes. -/
def bayBytes (b : BayAddr) : List Byte := [byteOf b.zone.val, byteOf b.bay.val]

/-- Yes or no as one byte. -/
def flagByte (b : Bool) : Byte := if b then 1 else 0

/-- Three flags as the low bits of one byte, the first in bit 0. -/
def threeBits (a b c : Bool) : Byte := byteOf (a.toNat + 2 * b.toNat + 4 * c.toNat)

/-- A set of rights as one byte. -/
def Rights.byte (r : Rights) : Byte := threeBits r.defrost r.check r.hold

/-- A subject as five bytes (Table 10-5). -/
def Subject.bytes : Subject → List Byte
  | .tag t => 0 :: tagBytes t
  | .bay b => 1 :: (bayBytes b ++ [0, 0])

/-- The byte of a power source. -/
def Source.byte : Source → Byte
  | .shore => 0
  | .diesel => 1

/-- The byte of a check kind. -/
def checkKindByte : CheckKind → Byte
  | .door => 0
  | .fuel => 1

/-- The byte of a priority. -/
def Priority.byte : Priority → Byte
  | .normal => 0
  | .urgent => 1

/-- The byte of a plan kind. -/
def PlanKind.byte : PlanKind → Byte
  | .doorRound => 0
  | .fuelRound => 1

/-- The byte of a collation range. -/
def Collation.byte : Collation → Byte
  | .m => 0
  | .hm => 1
  | .whm => 2
  | .dhm => 3

/-- The byte of a link action. -/
def LinkAction.byte : LinkAction → Byte
  | .none => 0
  | .doorCheckUrgent => 1
  | .fuelCheckUrgent => 2

/-- The byte of an attention mode. -/
def AttentionMode.byte : AttentionMode → Byte
  | .level => 0
  | .pulse => 1

/-- A one-byte field that may be absent, with its presence byte (R173). -/
def optionalByte (x : Option Byte) : List Byte :=
  match x with
  | none => [0, 0]
  | some b => [1, b]

/-- A two-byte field that may be absent, with its presence byte (R173). -/
def optionalBytes16 (x : Option Nat) : List Byte :=
  match x with
  | none => [0, 0, 0]
  | some n => 1 :: bytes16 n

/-- The match of a plan as its seven bytes, unused fields 0 (R173). -/
def PlanMatch.bytes : PlanMatch → List Byte
  | .every period => [0, byteOf period, 0, 0, 0, 0, 0]
  | .atTime minute hour weekday day range =>
    [1, 0, byteOf minute, byteOf hour, byteOf weekday, byteOf day, range.byte]

/-- The kind and result of a CHECK_CLOSE as three bytes (R173). -/
def CloseResult.bytes : CloseResult → List Byte
  | .secure => [0, 0, 0]
  | .ajar => [0, 1, 0]
  | .damaged => [0, 2, 0]
  | .fuel level refuelled => [1, byteOf level, flagByte refuelled]

/-- A setting number and its value as two bytes (Table 10-7). -/
def SettingValue.bytes : SettingValue → List Byte
  | .strict on => [1, flagByte on]
  | .humidityFallback n => [2, byteOf n]
  | .doorWeight n => [3, byteOf n]
  | .checkTimeout n => [4, byteOf n]
  | .attention .ofc mode => [5, mode.byte]
  | .attention .cab mode => [6, mode.byte]
  | .attention .pat mode => [7, mode.byte]

/-- The feeder field of FEEDER_GET as one byte (R173). -/
def feederChoiceByte : FeederChoice → Byte
  | some f => byteOf f.val
  | none => 4

/-- The fields of Table 1-1 as fourteen bytes (R173). -/
def Zone.bytes (e : Zone) : List Byte :=
  [flagByte e.isOpen, byteOf e.feeder.val, e.rights.byte] ++ bytes16 e.frostThreshold ++ [byteOf e.defrostMax] ++
    signedBytes e.terminationTemp ++ [byteOf e.holdLimit, byteOf e.doorAlarm] ++ bytes16 e.fuelMargin ++
    [byteOf e.fuelFloor, byteOf e.defaultLoad]

/-- The kind of a request. -/
def Request.kind : Request → Kind
  | .zoneSet _ _ => .zoneSet
  | .zoneGet _ => .zoneGet
  | .baySet _ _ _ => .baySet
  | .place _ _ _ _ => .place
  | .move _ _ => .move
  | .release _ => .release
  | .recordGet _ => .recordGet
  | .recordEdit _ _ _ => .recordEdit
  | .collect _ => .collect
  | .scanChanged _ => .scanChanged
  | .sweepSeen => .sweepSeen
  | .flushTags => .flushTags
  | .clockSet _ _ => .clockSet
  | .clockTrim => .clockTrim
  | .clockGet => .clockGet
  | .planSet _ _ => .planSet
  | .planGet _ => .planGet
  | .linkSet _ _ => .linkSet
  | .linkGet _ => .linkGet
  | .configSet _ => .configSet
  | .configGet => .configGet
  | .defrostRequest _ => .defrostRequest
  | .defrostCancel _ => .defrostCancel
  | .holdSet _ => .holdSet
  | .holdClear _ => .holdClear
  | .fuelPost _ _ _ => .fuelPost
  | .checkAdd _ _ _ => .checkAdd
  | .checkClose _ _ => .checkClose
  | .checkList _ => .checkList
  | .queueGet _ => .queueGet
  | .feederGet _ _ => .feederGet
  | .fetchNotice => .fetchNotice
  | .holdNotices => .holdNotices
  | .releaseNotices => .releaseNotices
  | .statusGet => .statusGet
  | .yardRestart => .yardRestart
  | .setBudget _ _ => .setBudget
  | .revoke _ _ => .revoke
  | .nextCheck => .nextCheck

/-- The body of a request: its fields in the order of Table 10-6, with no gap (R173). -/
def Request.body : Request → List Byte
  | .zoneSet z e => byteOf z.val :: e.bytes
  | .zoneGet z => [byteOf z.val]
  | .baySet b rights locked => bayBytes b ++ [rights.byte, flagByte locked]
  | .place t b source load =>
    tagBytes t ++ bayBytes b ++ optionalByte (source.map Source.byte) ++ optionalByte (load.map byteOf)
  | .move t b => tagBytes t ++ bayBytes b
  | .release t => tagBytes t
  | .recordGet n => n.bytes
  | .recordEdit n load override => n.bytes ++ optionalByte (load.map byteOf) ++ optionalBytes16 override
  | .collect n => n.bytes
  | .scanChanged start => [byteOf start.val]
  | .sweepSeen => []
  | .flushTags => []
  | .clockSet t w =>
    [byteOf t.year, byteOf t.month, byteOf t.day, byteOf w, byteOf t.hour, byteOf t.minute, byteOf t.second]
  | .clockTrim => []
  | .clockGet => []
  | .planSet p x => [byteOf p.val, flagByte x.active, x.kind.byte, x.mask] ++ x.rule.bytes
  | .planGet p => [byteOf p.val]
  | .linkSet k e =>
    [byteOf k.index.val, threeBits e.notify.ofc e.notify.cab e.notify.pat, e.action.byte]
  | .linkGet k => [byteOf k.index.val]
  | .configSet v => v.bytes
  | .configGet => []
  | .defrostRequest n => n.bytes
  | .defrostCancel n => n.bytes
  | .holdSet n => n.bytes
  | .holdClear n => n.bytes
  | .fuelPost n level refuelled => n.bytes ++ [byteOf level, flagByte refuelled]
  | .checkAdd n kind priority => n.bytes ++ [checkKindByte kind, priority.byte]
  | .checkClose t result => tagBytes t ++ result.bytes
  | .checkList start => [byteOf start]
  | .queueGet start => [byteOf start]
  | .feederGet choice start => [feederChoiceByte choice, byteOf start]
  | .fetchNotice => []
  | .holdNotices => []
  | .releaseNotices => []
  | .statusGet => []
  | .yardRestart => []
  | .setBudget f value => byteOf f.val :: bytes16 value
  | .revoke n deferral => n.bytes ++ [byteOf deferral]
  | .nextCheck => []

/-! ## What a request's fields may hold -/

/-- The ranges of Table 1-1. -/
def Zone.inRange (e : Zone) : Bool :=
  50 ≤ e.frostThreshold && e.frostThreshold ≤ 65535 && 10 ≤ e.defrostMax && e.defrostMax ≤ 90 &&
    0 ≤ e.terminationTemp && e.terminationTemp ≤ 300 && 1 ≤ e.holdLimit && e.holdLimit ≤ 60 && 1 ≤ e.doorAlarm &&
    e.doorAlarm ≤ 120 && 60 ≤ e.fuelMargin && e.fuelMargin ≤ 2880 && 5 ≤ e.fuelFloor && e.fuelFloor ≤ 50 &&
    10 ≤ e.defaultLoad && e.defaultLoad ≤ 250

/-- A subject that names something: a tag is not zero (R27). -/
def Subject.inRange : Subject → Bool
  | .tag t => t ≠ 0
  | .bay _ => true

/-- The ranges of a plan's match (R136). -/
def PlanMatch.inRange : PlanMatch → Bool
  | .every period => periods.contains period
  | .atTime minute hour weekday day _ =>
    minute ≤ 59 && hour ≤ 23 && 1 ≤ weekday && weekday ≤ 7 && 1 ≤ day && day ≤ 31

/-- The ranges of Table 10-7. -/
def SettingValue.inRange : SettingValue → Bool
  | .strict _ => true
  | .humidityFallback n => n ≤ 100
  | .doorWeight n => n ≤ 255
  | .checkTimeout n => 5 ≤ n && n ≤ 120
  | .attention _ _ => true

/-- An optional heater load in its range (R15, R20). -/
def loadInRange (load : Option Nat) : Bool := load.all fun n => 10 ≤ n && n ≤ 250

/-- Whether every field of a request lies in the range its rule gives. -/
def Request.inRange : Request → Bool
  | .zoneSet _ e => e.inRange
  | .place t _ _ load => t ≠ 0 && loadInRange load
  | .move t _ => t ≠ 0
  | .release t => t ≠ 0
  | .recordGet n => n.inRange
  | .recordEdit n load override => n.inRange && loadInRange load && override.all fun x => 50 ≤ x && x ≤ 65535
  | .collect n => n.inRange
  | .clockSet t w => t.inRange && 1 ≤ w && w ≤ 7
  | .planSet _ x => x.rule.inRange
  | .configSet v => v.inRange
  | .defrostRequest n => n.inRange
  | .defrostCancel n => n.inRange
  | .holdSet n => n.inRange
  | .holdClear n => n.inRange
  | .fuelPost n level _ => n.inRange && level ≤ 100
  | .checkAdd n _ _ => n.inRange
  | .checkClose t (.fuel level _) => t ≠ 0 && level ≤ 100
  | .checkClose t _ => t ≠ 0
  | .checkList start => start ≤ 63
  | .queueGet start => start ≤ 47
  | .feederGet _ start => start ≤ 47
  | .setBudget _ value => value ≤ 65535
  | .revoke n deferral => n.inRange && deferral ≤ 240
  | .zoneGet _ => true
  | .baySet _ _ _ => true
  | .scanChanged _ => true
  | .sweepSeen => true
  | .flushTags => true
  | .clockTrim => true
  | .clockGet => true
  | .planGet _ => true
  | .linkSet _ _ => true
  | .linkGet _ => true
  | .configGet => true
  | .fetchNotice => true
  | .holdNotices => true
  | .releaseNotices => true
  | .statusGet => true
  | .yardRestart => true
  | .nextCheck => true

end Sys2Proof.Machine
end

