-- ==== Sys2Proof/Machine/Replies.lean ====
section
/-! DEFINITION. What the part sends (chapter 10): frames and their check, reply codes and cause records, the fields of every DONE
and EMPTY reply in the order of the chapter that gives them, with their presence bytes, and the bytes of a reply. -/

namespace Sys2Proof.Machine

open Sys2Proof

/-! ## The check and the frame -/

/-- One bit of the check: the generator 0x1021, highest bit first, neither reflected nor inverted (R167). -/
def crcBit (c : BitVec 16) : BitVec 16 := if c.msb then (c <<< 1) ^^^ 0x1021#16 else c <<< 1

/-- One byte of the check (R167). -/
def crcByte (c : BitVec 16) (b : Byte) : BitVec 16 :=
  crcBit (crcBit (crcBit (crcBit (crcBit (crcBit (crcBit (crcBit (c ^^^ (b.zeroExtend 16 <<< 8)))))))))

/-- The check of the length, kind and body bytes of a frame, started from 0xFFFF (R167). -/
def crc16 (bytes : List Byte) : BitVec 16 := bytes.foldl crcByte 0xFFFF#16

/-- The sync byte (R166, Table 10-1). -/
def syncValue : Byte := 0xA5

/-- A frame as it is sent: sync, length, kind, body, and the check high byte first (Table 10-1). -/
def frameBytes (kind : Byte) (body : List Byte) : List Byte :=
  let covered := byteOf body.length :: kind :: body
  syncValue :: covered ++ [(crc16 covered).extractLsb' 8 8, (crc16 covered).extractLsb' 0 8]

/-! ## Codes and records whose bytes the manual gives -/

/-- The reply code of a master reply (Table 10-4). -/
def MasterReply.code : MasterReply → Byte
  | .done _ => 0
  | .empty _ => 1
  | .notPresent _ => 2
  | .rights _ => 3
  | .busy => 4
  | .range => 5
  | .full => 6
  | .wrongPort => 7
  | .unknownKind => 9

/-- The reply code PORT_BUSY (Table 10-4). -/
def portBusyCode : Byte := 8

/-- A cause record as eight bytes (Table 10-5). -/
def Cause.bytes (c : Cause) : List Byte :=
  let level : Byte := match c.level with
    | .zone => 1
    | .bay => 2
    | .record => 3
  let access : Byte := match c.access with
    | .read => 1
    | .act => 2
  let path : Byte := match c.path with
    | .cached => 1
    | .walked => 2
  [level, access, path] ++ c.name.bytes

/-- The status byte of a UNT reply (Table 10-3). -/
def UnitStatus.code : UnitStatus → Byte
  | .reportTaken => 16
  | .reportRefused => 17
  | .pollReply => 18
  | .range => 5
  | .wrongPort => 7
  | .portBusy => 8
  | .unknownKind => 9

/-- The code of a unit command (Table 10-3). -/
def Command.code : Command → Byte
  | .coolResume => 1
  | .heatOn => 2
  | .fansOff => 3
  | .standby => 4

/-- A UNT reply body, eight bytes; without a command the last six are 0 (R171, Table 10-3). -/
def unitReplyBytes (status : UnitStatus) : Option SentCommand → List Byte
  | none => [status.code, 0, 0, 0, 0, 0, 0, 0]
  | some c => [status.code, 1] ++ tagBytes c.tag ++ [c.command.code, byteOf c.sequence.val]

/-! ## The fields of a reply -/

/-- A field of a reply. The bytes of a presence byte, a tag, a bay address and a cause record are given (R172, Table 10-5, section
0.5); those of any other value are a free value (log 9). -/
inductive ReplyField where
  | presence (present : Bool)
  | tag (t : Tag)
  | bay (b : BayAddr)
  | cause (c : Cause)
  /-- A number, name, set or stamp, by its name in the manual and its numbers; with no numbers, that it has no value. -/
  | value (field : String) (numbers : List Int)
  deriving DecidableEq, Repr

/-- The bytes of a field (R172). -/
def ReplyField.bytes : ReplyField → List Byte
  | .presence present => [if present then 1 else 0]
  | .tag t => tagBytes t
  | .bay b => bayBytes b
  | .cause c => c.bytes
  | .value field numbers => Config.replyValue field numbers

/-- A number. -/
def num (field : String) (n : Nat) : ReplyField := .value field [n]

/-- Yes or no. -/
def yesNo (field : String) (b : Bool) : ReplyField := .value field [b.toNat]

/-- A name, by a byte that stands for it. -/
def named (field : String) (code : Byte) : ReplyField := .value field [code.toNat]

/-- A yard-time stamp. -/
def stamped (field : String) (t : YardTime) : ReplyField :=
  .value field [t.year, t.month, t.day, t.hour, t.minute, t.second]

/-- An optional field, or group of fields: one presence byte, 0 absent or 1 present, and then the field (R172). What is sent in
the place of an absent field is left open (log 9). -/
def optional {α : Type} (field : String) (x : Option α) (f : α → List ReplyField) : List ReplyField :=
  match x with
  | none => [.presence false, .value field []]
  | some a => .presence true :: f a

/-- The position or index at which a further read continues, or end (R23, R115, R116, R151). -/
def continuation (next : Option Nat) : ReplyField := .value "continues at" (next.toList.map fun n => (n : Int))

/-! ## Names -/

/-- The place of a unit state in the list of Table 1-2. -/
def UnitState.byte : UnitState → Byte
  | .awaiting => 0
  | .live => 1
  | .stale => 2

/-- The code of a mode echo (Table 10-2). -/
def ModeEcho.byte : ModeEcho → Byte
  | .cool => 1
  | .heat => 2
  | .fansOff => 3
  | .standby => 4
  | .off => 5

/-- The code of a door (Table 10-2). -/
def Door.byte : Door → Byte
  | .closed => 0
  | .opened => 1

/-- The place of an activity in the list of R75. -/
def Activity.byte : Activity → Byte
  | .cool => 0
  | .defrost => 1
  | .doorHold => 2
  | .serviceHold => 3

/-- The place of a defrost's state in the list of R89. -/
def DefrostState.byte : DefrostState → Byte
  | .running => 0
  | .paused => 1
  | .absent => 2

/-- The place of a slot's state in Table 7-1. -/
def Slot.byte : Slot → Byte
  | .empty => 0
  | .queued _ => 1
  | .sent _ => 2
  | .sentNext _ _ => 3

/-- The place of a master in the list OFC, CAB, PAT. -/
def masterByte : Master → Byte
  | .ofc => 0
  | .cab => 1
  | .pat => 2

/-- The place of a value of still-present in the list of R161. -/
def StillPresent.byte : StillPresent → Byte
  | .gone => 0
  | .present => 1
  | .cleared => 2

/-- The place of a mode in Table 10-8. -/
def Mode.byte : Mode → Byte
  | .yard => 0
  | .commission => 1

/-- The place of a restart cause in Table 10-8. -/
def RestartCause.byte : RestartCause → Byte
  | .cold => 0
  | .mainsReturn => 1
  | .yardRestart => 2

/-- The place of a cause in the list BUDGET, REVOKE, SOURCE (R106). -/
def RevokeCause.byte : RevokeCause → Byte
  | .budget => 0
  | .revoke => 1
  | .source => 2

/-- The origin of a check item: ROUND with a plan number, EVENT with an event kind, or MANUAL (R139). -/
def Origin.field : Origin → ReplyField
  | .round p => .value "origin" [0, p.val]
  | .event k => .value "origin" [1, k.index.val]
  | .manual => .value "origin" [2]

/-! ## Groups of fields -/

/-- The fields of Table 1-1. -/
def Zone.fields (e : Zone) : List ReplyField :=
  [yesNo "open" e.isOpen, num "feeder" e.feeder.val, named "rights" e.rights.byte,
    num "frost threshold" e.frostThreshold, num "defrost maximum" e.defrostMax,
    .value "termination temperature" [e.terminationTemp], num "hold limit" e.holdLimit,
    num "door-open alarm" e.doorAlarm, num "fuel margin" e.fuelMargin, num "fuel floor" e.fuelFloor,
    num "default heater load" e.defaultLoad]

/-- The latest readings (Table 1-2), with the reading time R55 writes among them. -/
def Readings.fields (x : Readings) : List ReplyField :=
  [.value "return-air" [x.returnAir], .value "coil" [x.coil], .value "ambient" [x.ambient]] ++
    optional "humidity" x.humidity (fun n => [num "humidity" n]) ++ [named "door" x.door.byte] ++
    optional "fuel" x.fuel (fun n => [num "fuel" n]) ++ [named "mode echo" x.echo.byte, stamped "reading time" x.readAt]

/-- A chain, oldest entry first: each with its kind, its covered reference and its set-by port (R89). -/
def chainFields (chain : List ChainEntry) : List ReplyField :=
  chain.flatMap fun e =>
    named "kind" e.kind.byte :: (optional "covered" e.covered (fun k => [named "covered" k.byte]) ++
      optional "set by" e.setBy (fun m => [named "set by" (masterByte m)]))

/-- The defrost run data (Table 1-2, R102). -/
def RunData.fields (d : RunData) : List ReplyField :=
  num "grant number" d.grant :: (optional "feeder" d.feeder (fun f => [num "feeder" f.val]) ++
    [num "load" d.load, num "heating seconds" d.heating, num "paused seconds" d.paused])

/-- The command queued in a slot. -/
def Slot.queuedCommand : Slot → Option Command
  | .queued c => some c
  | .empty => none
  | .sent _ => none
  | .sentNext _ _ => none

/-- The next command of a slot. -/
def Slot.nextCommand : Slot → Option Command
  | .sentNext _ c => some c
  | .empty => none
  | .queued _ => none
  | .sent _ => none

/-- The slot state, the queued command, the command in flight and the next command (R119). -/
def Slot.fields (x : Slot) : List ReplyField :=
  named "slot state" x.byte :: (optional "queued" x.queuedCommand (fun c => [named "queued" c.code]) ++
    optional "in flight" x.flight (fun f =>
      [named "in flight" f.command.code, num "in-flight sequence" f.sequence.val, stamped "sent-at" f.sentAt,
        num "seconds since sending" f.seconds]) ++
    optional "next" x.nextCommand (fun c => [named "next" c.code]))

/-- The full view: the fields of Table 1-2 in its order, the bay's rights and lock (R19), and what R89 adds to the chain. DESIGN
CHOICE: the heating and paused seconds, which R89 gives with the defrost's state and takes from the run data, are sent once, in
the run data (log 9). -/
def FullView.fields (v : FullView) : List ReplyField :=
  [.tag v.tag, .bay v.bay, named "power source" v.source.byte] ++
    optional "heater load" v.heaterLoad (fun n => [num "heater load" n]) ++
    optional "frost threshold override" v.thresholdOverride (fun n => [num "frost threshold override" n]) ++
    [named "unit state" v.unitState.byte] ++ optional "latest readings" v.readings Readings.fields ++
    [num "report age" v.reportAge] ++
    optional "last accepted sequence" v.lastSequence (fun b => [num "last accepted sequence" b.toNat]) ++
    optional "door-open since" v.doorOpenSince (fun n => [num "door-open since" n]) ++
    [num "frost accumulator" v.frost, num "frost level" v.level, num "threshold in force" v.threshold] ++
    optional "fuel reference level" v.fuelRef (fun n => [num "fuel reference level" n]) ++
    [num "fuel age" v.fuelAge, num "burn rate" v.burnRate] ++
    optional "runway" v.runway (fun n => [num "runway" n]) ++ [yesNo "fuel-low" v.fuelLow] ++
    optional "last refuel" v.lastRefuel (fun x =>
      stamped "last refuel" x.time :: optional "amount" x.amount fun n => [num "amount" n]) ++
    chainFields v.chain ++ optional "defrost run data" v.run RunData.fields ++
    [num "defrost not-before" v.notBefore, yesNo "cancel latch" v.cancelLatch] ++ v.slot.fields ++
    [num "command sequence" v.sequence.val, yesNo "seen" v.seen, yesNo "changed" v.changed,
      named "effective rights" v.rights.byte, yesNo "lock" v.locked, named "effective activity" v.effective.byte,
      named "wanted command" v.wanted.code, named "defrost state" v.defrost.byte]

/-- The patrol view, in the order of R19. -/
def PatrolView.fields (v : PatrolView) : List ReplyField :=
  [.tag v.tag, .bay v.bay] ++ chainFields v.chain ++ optional "door" v.door (fun d => [named "door" d.byte]) ++
    optional "fuel" v.fuel (fun n => [num "fuel" n]) ++ optional "runway" v.runway (fun n => [num "runway" n]) ++
    v.pendingChecks.map fun k => named "pending" (checkKindByte k)

/-- The fields of Table 8-1. -/
def Clock.fields (c : Clock) : List ReplyField :=
  [num "year" c.time.year, num "month" c.time.month, num "day" c.time.day, num "weekday" c.weekday,
    num "hour" c.time.hour, num "minute" c.time.minute, num "second" c.time.second, yesNo "valid" c.valid]

/-- The match of a plan; the fields of the match not chosen are absent (R136). DESIGN CHOICE: the AT fields, minute to collation
range, are one group behind one presence byte (log 9). -/
def PlanMatch.fields : PlanMatch → List ReplyField
  | .every period =>
    num "match" 0 :: (optional "period" (some period) (fun n => [num "period" n]) ++
      optional "AT fields" (none : Option Nat) fun _ => [])
  | .atTime minute hour weekday day range =>
    num "match" 1 :: (optional "period" (none : Option Nat) (fun n => [num "period" n]) ++
      optional "AT fields" (some range) fun range =>
        [num "minute" minute, num "hour" hour, num "weekday" weekday, num "day" day,
          named "collation range" range.byte])

/-- A Round Plan (R136). -/
def Plan.fields (p : Plan) : List ReplyField :=
  [yesNo "active" p.active, named "kind" p.kind.byte, named "zone mask" p.mask] ++ p.rule.fields

/-- A link entry (R154). -/
def LinkEntry.fields (e : LinkEntry) : List ReplyField :=
  [named "notify set" (threeBits e.notify.ofc e.notify.cab e.notify.pat), named "action" e.action.byte]

/-- The seven settings, in setting order (R174, Table 10-7). -/
def Settings.fields (g : Settings) : List ReplyField :=
  [yesNo "STRICT" g.strict, num "humidity fallback" g.humidityFallback, num "door weight" g.doorWeight,
    num "check timeout" g.checkTimeout, named "attention mode of OFC" g.attention.ofc.byte,
    named "attention mode of CAB" g.attention.cab.byte, named "attention mode of PAT" g.attention.pat.byte]

/-- The item a NEXT_CHECK issues (R145). -/
def IssuedView.fields (v : IssuedView) : List ReplyField :=
  [.tag v.tag, .bay v.bay, named "kind" (checkKindByte v.kind), named "priority" v.priority.byte, v.origin.field,
    stamped "created-at" v.createdAt, num "reissue count" v.reissues]

/-- An item of a CHECK_LIST (R151). -/
def CheckView.fields (v : CheckView) : List ReplyField :=
  [.tag v.tag, .bay v.bay, named "kind" (checkKindByte v.kind), named "priority" v.priority.byte, v.origin.field,
    yesNo "state" v.issued, stamped "created-at" v.createdAt] ++
    optional "issued-at" v.issuedAt (fun t => [stamped "issued-at" t]) ++
    [num "seconds since issue" v.seconds, num "reissue count" v.reissues]

/-- An entry of a QUEUE_GET (R115). -/
def QueueView.fields (v : QueueView) : List ReplyField :=
  [.tag v.tag, .bay v.bay, num "excess" v.excess, yesNo "manual flag" v.manual, num "pass count" v.passCount,
    yesNo "pinned" v.pinned, named "power source" v.source.byte] ++
    optional "feeder" v.feeder (fun f => [num "feeder" f.val]) ++
    [num "load" v.load, yesNo "eligible" v.eligible, num "not-before" v.notBefore]

/-- An item of a FEEDER_GET (R116). -/
def GrantView.fields (v : GrantView) : List ReplyField :=
  [num "grant number" v.number, .tag v.tag, num "load" v.load, yesNo "running" v.running,
    num "heating seconds" v.heating]

/-- The reason of a DEFROST_STOPPED, and for REVOKED, last, its cause (R106, Table 9-1). DESIGN CHOICE: the cause is a field of the
reason REVOKED alone and no optional field, so it has no presence byte and no other reason has anything in its place (log 9). -/
def StopReason.fields (reason : StopReason) (grant heating : Nat) : List ReplyField :=
  let rest := [num "grant number" grant, num "heating seconds" heating]
  match reason with
  | .timedOut => num "reason" 0 :: rest
  | .revoked cause => num "reason" 1 :: rest ++ [named "cause" cause.byte]
  | .abandoned => num "reason" 2 :: rest
  | .cancelled => num "reason" 3 :: rest
  | .released => num "reason" 4 :: rest

/-- The detail of an event (Table 9-1). A runway that is unknown has no number (R71). DESIGN CHOICE: "unknown" is a
value of the field, with no presence byte, as "manual" is of FROST_DEMAND's (log 9). -/
def Detail.fields : Detail → List ReplyField
  | .frostDemand excess level threshold =>
    [num "excess" excess, num "frost level" level, num "threshold in force" threshold]
  | .frostDemandManual m => [named "manual, from port" (masterByte m)]
  | .defrostDone grant heating => [num "grant number" grant, num "heating seconds" heating]
  | .defrostStopped reason grant heating => reason.fields grant heating
  | .doorOpenLong minutes => [num "door-open alarm" minutes]
  | .doorDamaged m => [named "port" (masterByte m)]
  | .fuelLow level runway => [num "level in force" level, .value "runway" (runway.toList.map fun n => (n : Int))]
  | .refuelSeen amount => optional "amount" amount fun n => [num "amount" n]
  | .unitSilent q => optional "last accepted sequence" q fun b => [num "last accepted sequence" b.toNat]
  | .unknownUnit q => [num "report sequence" q.toNat]
  | .cmdUnconfirmed c q t => [named "command" c.code, num "sequence" q.val, stamped "sent-at" t]
  | .checkEscalated k o n => [named "kind" (checkKindByte k), o.field, num "reissue count" n]
  | .checkListFull k o => [named "kind" (checkKindByte k), o.field]
  | .roundMatch p => [num "plan number" p.val]
  | .rightsRefusal m c => [named "port" (masterByte m), .cause c]
  | .intakeOverrun t q => [.tag t, num "sequence" q.toNat]
  | .feederShort f load budget granted =>
    [num "feeder" f.val, num "load" load, num "budget" budget, num "granted sum" granted]

/-- A notice as it is fetched (R160). -/
def FetchedNotice.fields (n : FetchedNotice) : List ReplyField :=
  [num "event kind" n.detail.kind.index.val] ++ optional "tag" n.tag (fun t => [.tag t]) ++
    optional "bay address" n.bay (fun b => [.bay b]) ++ n.detail.fields ++
    [stamped "stamp" n.stamp, yesNo "lost-before" n.lostBefore] ++
    optional "still-present" n.stillPresent fun x => [named "still-present" x.byte]

/-- The fields of Table 10-8. -/
def StatusView.fields (v : StatusView) : List ReplyField :=
  [named "mode" v.mode.byte, named "restart cause" v.cause.byte, yesNo "restart-seen" v.restartSeen,
    yesNo "clock valid" v.clockValid, num "records placed" v.placed, num "Defrost Queue length" v.queueLength,
    num "Check List items" v.checkItems, num "Intake FIFO fill" v.intakeFill, num "notices pending" v.notices,
    yesNo "lost marker" v.lost]

/-- What follows the code of a DONE or EMPTY: the fields the owning chapter gives for the request, in its order (R172). -/
def Payload.fields : Payload → List ReplyField
  | .nothing => []
  | .zone e => e.fields
  | .placed i => [num "record" i.val]
  | .full v => v.fields
  | .patrol v => v.fields
  | .scan tags next => tags.map .tag ++ [continuation next]
  | .clock c => c.fields
  | .plan p => p.fields
  | .link e => e.fields
  | .settings g => g.fields
  | .added merged => [yesNo "merged" merged]
  | .issued v => v.fields
  | .checks items next => items.flatMap CheckView.fields ++ [continuation next]
  | .queue entries next => entries.flatMap QueueView.fields ++ [continuation next]
  | .feeder sums items next =>
    optional "budget" (sums.map Feeder.budget) (fun n => [num "budget" n]) ++
      optional "granted sum" (sums.map Feeder.granted) (fun n => [num "granted sum" n]) ++
      items.flatMap GrantView.fields ++ [continuation next]
  | .notice (some n) left lost => n.fields ++ [num "notices left" left, yesNo "lost marker" lost]
  | .notice none left lost => [num "notices left" left, yesNo "lost marker" lost]
  | .status v => v.fields
  | .budget inForce granted => [num "budget" inForce, num "granted sum" granted]

/-! ## Bodies and frames -/

/-- A master reply body (R172): the code; after NOT_PRESENT or RIGHTS the cause record; after DONE or EMPTY the fields; after any
other code nothing. -/
def MasterReply.bytes (r : MasterReply) : List Byte :=
  match r with
  | .notPresent c => r.code :: c.bytes
  | .rights c => r.code :: c.bytes
  | .done p => r.code :: p.fields.flatMap ReplyField.bytes
  | .empty p => r.code :: p.fields.flatMap ReplyField.bytes
  | .busy | .range | .full | .wrongPort | .unknownKind => [r.code]

/-- The body of a reply. -/
def ReplyBody.bytes : ReplyBody → List Byte
  | .master r => r.bytes
  | .unit status c => unitReplyBytes status c

/-- The body of a PORT_BUSY; on UNT it carries no command (R169). -/
def portBusyBytes : PortId → List Byte
  | .unt => unitReplyBytes .portBusy none
  | .ofc => [portBusyCode]
  | .cab => [portBusyCode]
  | .pat => [portBusyCode]

/-- The frame a port is sending, if it is sending one: its reply, with the kind byte of its request, or an owed PORT_BUSY, with
the kind byte of the discarded frame (R169, R170). -/
def State.sending (s : State) (p : PortId) : Option (List Byte) :=
  match (s.port p).activity with
  | .replying r => some (frameBytes r.kind r.body.bytes)
  | .answeringBusy kind => some (frameBytes kind (portBusyBytes p))
  | .free => none
  | .waiting _ => none
  | .awaitingRestart => none

end Sys2Proof.Machine
end

