-- ==== Sys2Proof/Machine/Chains.lean ====
section
/-! DEFINITION. Chain Control (chapter 5): pushes onto and removals from an activity chain, with the hand-off of the wanted
command. What a return to [COOL] then does belongs to the Defrost Scheduler. -/

namespace Sys2Proof.Machine

open Sys2Proof

/-- A push on top of a chain, with covered the kind that was newest (R75). -/
def pushOn (chain : List ChainEntry) (k : Activity) (setBy : Option Master) : List ChainEntry :=
  chain ++ [{ kind := k, covered := some (effectiveOf chain), setBy := setBy }]

/-- A chain less one kind; the other entries keep their order and their references (R88). -/
def dropFrom (chain : List ChainEntry) (k : Activity) : List ChainEntry :=
  chain.filter fun e => e.kind ≠ k

/-- A push of an activity (R77): a kind already present leaves the chain as it is and hands nothing (R78). -/
def State.pushActivity (i : RecIdx) (k : Activity) (setBy : Option Master) (s : State) : State :=
  match s.record? i with
  | none => s
  | some r =>
    if r.holds k then s
    else (s.updRecord i fun r => { r with chain := pushOn r.chain k setBy }).handOff i k.wanted

/-- The run data after a removal that leaves `newest` on top: a defrost that resumes has its paused seconds set to 0
(R85). -/
def resumeRun (newest : Activity) (run : Option RunData) : Option RunData :=
  match newest with
  | .defrost => run.map fun d => { d with paused := 0 }
  | .cool => run
  | .doorHold => run
  | .serviceHold => run

/-- A removal of an activity (R77, R79, R81, R83): the newest entry's removal hands the wanted command of the entry beneath,
and any other removal hands nothing. A kind that is absent leaves the chain as it is. -/
def State.removeActivity (i : RecIdx) (k : Activity) (s : State) : State :=
  match s.record? i with
  | none => s
  | some r =>
    if r.holds k then
      let chain := dropFrom r.chain k
      if r.effective = k then
        (s.updRecord i fun r => { r with chain := chain, run := resumeRun (effectiveOf chain) r.run }).handOff i
          (effectiveOf chain).wanted
      else s.updRecord i fun r => { r with chain := chain }
    else s

end Sys2Proof.Machine
end

