-- ==== Sys2Proof/Machine/Estimator.lean ====
section
/-! DEFINITION. The Estimator (chapter 4): frost accumulator, level and threshold, and the fuel fields. -/

namespace Sys2Proof.Machine

open Sys2Proof

/-! ## Frost -/

/-- The frost level of an accumulator: rounded to the nearest, an exact half up (R62). -/
def frostLevel (a : Nat) : Nat := (a + 131072) / Config.frostScale

/-- The frost level L of a record (R58). -/
def TrailerRecord.level (r : TrailerRecord) : Nat := frostLevel r.frost

/-- D, the return-air temperature less the coil temperature, clamped to 0..200 (R60). -/
def coilDrop (returnAir coil : Int) : Nat := (min 200 (max 0 (returnAir - coil))).toNat

/-- The coil term: mode echo COOL and a coil below 0 (R60). -/
def coilTerm (x : Readings) (h dt : Nat) : Nat :=
  if x.echo = .cool ∧ x.coil < 0 then coilDrop x.returnAir x.coil * h * dt else 0

/-- Whether the door term's mode test is met: COOL, FANS_OFF or STANDBY (R61). -/
def ModeEcho.frosts : ModeEcho → Bool
  | .cool | .fansOff | .standby => true
  | .heat | .off => false

/-- The door term: the echo, a coil below 0, and a door OPEN in this report or the previous one (R61). -/
def doorTerm (x : Readings) (previous : Option Door) (h weight dt : Nat) : Nat :=
  if x.echo.frosts ∧ x.coil < 0 ∧ (x.door = .opened ∨ previous = some .opened) then weight * h * 16 * dt else 0

/-- H, the humidity of the report, or the yard fallback (R59). -/
def humidityOf (g : Settings) (x : Readings) : Nat := x.humidity.getD g.humidityFallback

/-- The accumulator after a report's frost update (R59). -/
def frostAfter (g : Settings) (a : Nat) (x : Readings) (previous : Option Door) (dt : Nat) : Nat :=
  min (a + (coilTerm x (humidityOf g x) dt + doorTerm x previous (humidityOf g x) g.doorWeight dt)) Config.frostMax

/-- The effective threshold of a record: its override, or the frost threshold of its zone (R63). -/
def State.effectiveThreshold (s : State) (r : TrailerRecord) : Nat :=
  r.thresholdOverride.getD (s.zoneOf r).frostThreshold

/-- Step 2 of an accepted report, its frost part: the accumulator, then the threshold in force (R59, R63). -/
def State.frostUpdate (i : RecIdx) (x : Readings) (previous : Option Door) (dt : Nat) (s : State) : State :=
  s.updRecord i fun r =>
    { r with frost := frostAfter s.settings r.frost x previous dt, threshold := s.effectiveThreshold r }

/-- The kinds of end of a defrost that end it in one event (Table 6-3). RESTART is the restart's own (R117). -/
inductive EndKind where
  | terminated
  | timedOut
  | revoked (cause : RevokeCause) (wait : Option Nat)
  | abandoned
  | cancelled
  | released
  deriving DecidableEq, Repr

/-- The accumulator after the end of a defrost (Table 4-1). -/
def frostAtEnd (k : EndKind) (a : Nat) : Nat :=
  match k with
  | .terminated => 0
  | .timedOut => a / 2
  | .revoked _ _ => a
  | .abandoned => a
  | .cancelled => a
  | .released => a

/-! ## Fuel -/

/-- A rate sample, in tenths of a percent of tank per hour, capped at 1000 (R68). -/
def rateSample (drop age : Nat) : Nat := min (drop * 36000 / max age 60) Config.burnRateTop

/-- The burn rate after a sample: seven eighths of the old and one eighth of the sample, rounded (R68). -/
def averagedRate (b r : Nat) : Nat := (7 * b + r + 4) / 8

/-- The runway of a level at a burn rate, in minutes; 65535 is unknown (R70). -/
def runwayOf (level b : Nat) : Nat := if b = 0 then Config.runwayUnknown else level * 600 / b

/-- The restoring division by which R70 develops the runway: `bits` digits of the dividend, the highest first, with the
partial remainder `rem` and the quotient so far `quo`. -/
def restoringDivide (dividend divisor : Nat) : (bits : Nat) → (rem quo : Nat) → Nat
  | 0, _, quo => quo
  | bits + 1, rem, quo =>
    let partialRem := 2 * rem + dividend / 2 ^ bits % 2
    if divisor ≤ partialRem then restoringDivide dividend divisor bits (partialRem - divisor) (2 * quo + 1)
    else restoringDivide dividend divisor bits partialRem (2 * quo)

/-- Whether fuel-low stands after an evaluation at a level (Table 4-6). -/
def fuelLowAfter (z : Zone) (low : Bool) (level b runway : Nat) : Bool :=
  if low then !(level ≥ z.fuelFloor + 5 && (b = 0 || runway ≥ z.fuelMargin + 60))
  else level < z.fuelFloor || (b > 0 && runway < z.fuelMargin)

/-- The runway as an event's detail gives it: 65535 is unknown (R71). -/
def shownRunway (n : Nat) : Option Nat := if n = Config.runwayUnknown then none else some n

/-- The runway evaluation and then the fuel-low evaluation, with FUEL_LOW at each change from off to on (R70, R71). -/
def State.evaluateFuel (i : RecIdx) (level : Nat) (s : State) : State :=
  match s.record? i with
  | none => s
  | some r =>
    let runway := runwayOf level r.burnRate
    let low := fuelLowAfter (s.zoneOf r) r.fuelLow level r.burnRate runway
    let s := s.updRecord i fun r => { r with runway := runway, fuelLow := low }
    if low ∧ ¬ r.fuelLow then s.raiseFor i (.fuelLow level (shownRunway runway)) else s

/-- The cases of a fuel reading, up to the evaluations (Table 4-5, R68, R69). DESIGN CHOICE: a reading equal to the reference
leaves the fuel age running, by R67 and by the "changes nothing" of R73; R73 also has the age start "from the later of the two"
after a post and such a reading, which says otherwise where the post came first (log 22). -/
def State.fuelCase (i : RecIdx) (f : Nat) (stamp : YardTime) (s : State) : State :=
  match s.record? i with
  | none => s
  | some r =>
    match r.fuelRef with
    | none => s.updRecord i fun r => { r with fuelRef := some f, fuelAge := 0 }
    | some p =>
      if f < p then
        s.updRecord i fun r =>
          { r with burnRate := averagedRate r.burnRate (rateSample (p - f) r.fuelAge), fuelRef := some f, fuelAge := 0 }
      else if f ≥ p + 5 then
        let s := s.updRecord i fun r => { r with lastRefuel := some { time := stamp, amount := some (f - p) } }
        let s := s.raiseFor i (.refuelSeen (some (f - p)))
        s.updRecord i fun r => { r with fuelRef := some f, fuelAge := 0 }
      else if p < f then s.updRecord i fun r => { r with fuelRef := some f, fuelAge := 0 }
      else s

/-- Step 2 of an accepted report, its fuel part: a DIESEL report that carries fuel (R66, R67). -/
def State.fuelUpdate (i : RecIdx) (source : Source) (x : Readings) (s : State) : State :=
  match source, x.fuel with
  | .diesel, some f => (s.fuelCase i f x.readAt).evaluateFuel i f
  | _, _ => s

/-- What a FUEL_POST does, and a FUEL close with it (R72, R147). -/
def State.postFuel (i : RecIdx) (level : Nat) (refuelled : Bool) (s : State) : State :=
  let s := s.updRecord i fun r => { r with fuelRef := some level, fuelAge := 0 }
  let s :=
    if refuelled then
      (s.updRecord i fun r => { r with lastRefuel := some { time := s.now, amount := none } }).raiseFor i
        (.refuelSeen none)
    else s
  s.evaluateFuel i level

end Sys2Proof.Machine
end

