-- ==== Sys2Proof/Machine/Scheduler.lean ====
section
/-! DEFINITION. The Defrost Scheduler (chapter 6): feeders, the Defrost Queue, demand, grant passes, the ends of a defrost,
budget cuts and the readouts. -/

namespace Sys2Proof.Machine

open Sys2Proof

/-! ## The Defrost Queue -/

/-- Whether an entry stands ahead of another: higher excess, then lower joined-at (R93). -/
def QueueEntry.ahead (a b : QueueEntry) : Bool :=
  b.excess < a.excess || (a.excess = b.excess && a.joinedAt < b.joinedAt)

/-- Whether an entry is pinned (R93). -/
def QueueEntry.isPinned (e : QueueEntry) : Bool := Config.pinCount ≤ e.passCount

/-- A queue with an entry put in its place (R93). -/
def insertEntry (e : QueueEntry) : List QueueEntry → List QueueEntry
  | [] => [e]
  | x :: xs => if e.ahead x then e :: x :: xs else x :: insertEntry e xs

/-- A queue less the entry of a record. -/
def withoutRecord (i : RecIdx) (q : List QueueEntry) : List QueueEntry := q.filter fun e => e.record ≠ i

/-- A queue with joined-at numbers given afresh from `n` in its present order (R93). -/
def renumberFrom : Nat → List QueueEntry → List QueueEntry
  | _, [] => []
  | n, e :: rest => { e with joinedAt := n } :: renumberFrom (n + 1) rest

/-- The queue entry of a record. -/
def State.entryOf (s : State) (i : RecIdx) : Option QueueEntry := s.queue.find? fun e => e.record = i

/-- Makes room for a joined-at number: once the counter has passed its top, the standing entries take 1 to n (R93). -/
def State.joinRoom (s : State) : State :=
  if Config.counterTop < s.nextJoin then
    { s with queue := renumberFrom 1 s.queue, nextJoin := s.queue.length + 1 }
  else s

/-- Makes a queue entry with the next joined-at (R93). -/
def State.joinQueue (i : RecIdx) (excess : Nat) (manual : Bool) (passCount : Nat) (s : State) : State :=
  let s := s.joinRoom
  { s with
    queue := insertEntry
      { record := i, excess := excess, manual := manual, joinedAt := s.nextJoin, passCount := passCount } s.queue
    nextJoin := s.nextJoin + 1 }

/-- Takes a record's entry out of the queue; the joined-at counter returns to 1 when the queue becomes empty (R93). -/
def State.leaveQueue (i : RecIdx) (s : State) : State :=
  let q := withoutRecord i s.queue
  { s with queue := q, nextJoin := if q.isEmpty then 1 else s.nextJoin }

/-- Changes a record's entry, keeping its joined-at and pass count, and moves it to its place (R94, R96). -/
def State.rewriteEntry (e : QueueEntry) (s : State) : State :=
  { s with queue := insertEntry e (withoutRecord e.record s.queue) }

/-! ## Demand -/

/-- Evaluates demand for a trailer (R95): where every condition holds it is enqueued and FROST_DEMAND is raised. -/
def State.evaluateDemand (i : RecIdx) (s : State) : State :=
  match s.record? i with
  | none => s
  | some r =>
    if r.threshold ≤ r.level ∧ ¬ r.holds .defrost ∧ (s.entryOf i).isNone ∧ ¬ r.cancelLatch then
      (s.joinQueue i (r.level - r.threshold) false 0).raiseFor i
        (.frostDemand (r.level - r.threshold) r.level r.threshold)
    else s

/-- Recomputes the excess of a queued trailer that is not manual (R94). -/
def State.recomputeExcess (i : RecIdx) (s : State) : State :=
  match s.record? i, s.entryOf i with
  | some r, some e =>
    if e.manual then s
    else if r.threshold ≤ r.level then s.rewriteEntry { e with excess := r.level - r.threshold }
    else s.leaveQueue i
  | _, _ => s

/-! ## Eligibility, load and feeder -/

/-- Whether a record is eligible for a grant now (R98). -/
def State.eligible (s : State) (r : TrailerRecord) : Bool :=
  r.unitState = .live && (r.readings.map Readings.echo) ≠ some .off && r.atBase && r.notBefore = 0 && s.mode = .yard

/-- The load of a record's grant: its heater load, or the default of its zone (R100). -/
def State.loadOf (s : State) (r : TrailerRecord) : Nat := r.heaterLoad.getD (s.zoneOf r).defaultLoad

/-- The feeder a record draws on: that of its zone for SHORE, none for DIESEL (R100). -/
def State.feederOf (s : State) (r : TrailerRecord) : Option FeederNo :=
  match r.source with
  | .shore => some (s.zoneOf r).feeder
  | .diesel => none

/-- Whether a load fits on a feeder as its granted sum now stands (R100, R114). -/
def State.fits (s : State) (f : FeederNo) (load : Nat) : Bool := s.feeders[f].granted + load ≤ s.feeders[f].budget

/-! ## Grants -/

/-- The grant number after one (R103). -/
def nextGrantNumber (n : Nat) : Nat := if n = Config.counterTop then 1 else n + 1

/-- A grant (R102): the entry leaves, the run data is made, the feeder is charged, the grant list takes the item, and DEFROST
is pushed. -/
def State.grant (i : RecIdx) (feeder : Option FeederNo) (load : Nat) (s : State) : State :=
  let s := s.leaveQueue i
  let n := s.nextGrant
  let s := s.updRecord i fun r =>
    { r with run := some { grant := n, feeder := feeder, load := load, heating := 0, paused := 0 } }
  let s := match feeder with
    | some f => s.charge f load
    | none => s
  let item : GrantItem := { number := n, record := i, feeder := feeder, load := load }
  let s := { s with grants := s.grants ++ [item], nextGrant := nextGrantNumber n }
  s.pushActivity i .defrost none

/-! ## The grant pass -/

/-- Where a grant pass stands: the part as the pass has left it so far, the entries marked passed over, the feeders that have
a blocker, and the entries pinned by this pass (R100, R101). -/
structure Pass where
  state : State
  passedOver : List (FeederNo × RecIdx)
  blocked : List FeederNo
  short : List (FeederNo × RecIdx)
  deriving DecidableEq, Repr

/-- Whether a pair of feeder and record is in a list of them. -/
def marked (l : List (FeederNo × RecIdx)) (f : FeederNo) (i : RecIdx) : Bool := l.any fun x => x.1 = f && x.2 = i

/-- A queue after the entries marked passed over on a feeder have each gained one pass count, up to 4 (R101). -/
def countMarked (l : List (FeederNo × RecIdx)) (f : FeederNo) (q : List QueueEntry) : List QueueEntry :=
  q.map fun e => if marked l f e.record then { e with passCount := min (e.passCount + 1) Config.pinCount } else e

/-- The entries marked on a feeder whose count now goes from 3 to 4, in queue order (R101). -/
def newlyPinned (l : List (FeederNo × RecIdx)) (f : FeederNo) (q : List QueueEntry) : List (FeederNo × RecIdx) :=
  (q.filter fun e => marked l f e.record && e.passCount + 1 = Config.pinCount).map fun e => (f, e.record)

/-- What a SHORE grant on a feeder does to the entries marked on it: each gains one count and its mark is spent, so that it
gains at most one in a pass (R101). -/
def Pass.counted (p : Pass) (f : FeederNo) : Pass :=
  { p with
    state := { p.state with queue := countMarked p.passedOver f p.state.queue }
    short := p.short ++ newlyPinned p.passedOver f p.state.queue
    passedOver := p.passedOver.filter fun x => x.1 ≠ f }

/-- A grant pass considers one entry (R100, Table 6-2). -/
def Pass.consider (p : Pass) (i : RecIdx) : Pass :=
  match p.state.entryOf i, p.state.record? i with
  | some e, some r =>
    if p.state.eligible r then
      let load := p.state.loadOf r
      match p.state.feederOf r with
      | none => { p with state := p.state.grant i none load }
      | some f =>
        if p.state.fits f load then
          if p.blocked.contains f then p
          else Pass.counted { p with state := p.state.grant i (some f) load } f
        else if e.isPinned then
          if p.blocked.contains f then p else { p with blocked := p.blocked ++ [f] }
        else { p with passedOver := p.passedOver ++ [(f, i)] }
    else p
  | _, _ => p

/-- The walk of a grant pass over the entries in queue order, as the queue stands when it starts (R100). -/
def State.walkQueue (s : State) : Pass :=
  (s.queue.map QueueEntry.record).foldl Pass.consider { state := s, passedOver := [], blocked := [], short := [] }

/-- FEEDER_SHORT of an entry pinned by a pass, with the budget and granted sum as the pass has left them (R101). DEDUCED: they
are read when the walk is over (log 12). -/
def State.raiseShort (s : State) (x : FeederNo × RecIdx) : State :=
  match s.record? x.2 with
  | none => s
  | some r => s.raiseFor x.2 (.feederShort x.1 (s.loadOf r) s.feeders[x.1].budget s.feeders[x.1].granted)

/-- A grant pass (R99 to R101): the walk, and then the FEEDER_SHORT of each entry it pinned, in the order of pinning. -/
def State.grantPass (s : State) : State := s.walkQueue.short.foldl State.raiseShort s.walkQueue.state

/-! ## Ends of a defrost -/

/-- The event of an end (Table 6-3, R106 step 6). -/
def EndKind.detail (k : EndKind) (d : RunData) : Detail :=
  match k with
  | .terminated => .defrostDone d.grant d.heating
  | .timedOut => .defrostStopped .timedOut d.grant d.heating
  | .revoked cause _ => .defrostStopped (.revoked cause) d.grant d.heating
  | .abandoned => .defrostStopped .abandoned d.grant d.heating
  | .cancelled => .defrostStopped .cancelled d.grant d.heating
  | .released => .defrostStopped .released d.grant d.heating

/-- The not-before after an end (Table 6-3). -/
def EndKind.notBefore (k : EndKind) (old : Nat) : Nat :=
  match k with
  | .terminated => Config.afterDefrostWait
  | .timedOut => Config.afterDefrostWait
  | .revoked _ (some wait) => wait
  | .revoked _ none => old
  | .abandoned => old
  | .cancelled => old
  | .released => old

/-- The cancel latch after an end (Table 6-3). -/
def EndKind.latch (k : EndKind) (old : Bool) : Bool :=
  match k with
  | .cancelled => true
  | .terminated => old
  | .timedOut => old
  | .revoked _ _ => old
  | .abandoned => old
  | .released => old

/-- The re-enqueue of a revoked trailer whose level still meets its threshold: pinned, raising nothing (R108). -/
def State.reenqueue (i : RecIdx) (s : State) : State :=
  match s.record? i with
  | none => s
  | some r =>
    if r.threshold ≤ r.level then s.joinQueue i (r.level - r.threshold) false Config.pinCount else s

/-- The queue action of an end, its step 7 (Table 6-3). -/
def State.queueAction (i : RecIdx) (k : EndKind) (s : State) : State :=
  match k with
  | .timedOut => s.evaluateDemand i
  | .revoked _ _ => s.reenqueue i
  | .terminated => s
  | .abandoned => s
  | .cancelled => s
  | .released => s

/-- The end of a defrost, steps 1 to 7 of R106. The grant pass of step 8 is run by whatever ends the defrost, where R99 gives
one. A record that holds no run data is left as it is. -/
def State.endDefrost (i : RecIdx) (k : EndKind) (s : State) : State :=
  match (s.record? i).bind TrailerRecord.run with
  | none => s
  | some d =>
    let s := s.updRecord i fun r => { r with run := none }
    let s := { s with grants := s.grants.filter fun g => g.record ≠ i }
    let s := match d.feeder with
      | some f => s.discharge f d.load
      | none => s
    let s := s.updRecord i fun r => { r with frost := frostAtEnd k r.frost }
    let s := s.removeActivity i .defrost
    let s := s.updRecord i fun r => { r with notBefore := k.notBefore r.notBefore, cancelLatch := k.latch r.cancelLatch }
    let s := s.raiseFor i (k.detail d)
    s.queueAction i k

/-- A chain that has come back to [COOL] by HOLD_CLEAR: demand is evaluated and a pass runs (R84, R99). -/
def State.returnToCool (i : RecIdx) (s : State) : State := (s.evaluateDemand i).grantPass

/-! ## Budget cuts -/

/-- The latest grant list item that names a feeder (R111). -/
def State.newestOn (s : State) (f : FeederNo) : Option GrantItem := s.grants.reverse.find? fun g => g.feeder = some f

/-- Revokes the grants on a feeder, newest first, until its sum is within its budget (R111). `n` bounds the revocations, and
the number of grants is enough. -/
def State.cutGrants (f : FeederNo) : (n : Nat) → State → State
  | 0, s => s
  | n + 1, s =>
    if s.feeders[f].granted ≤ s.feeders[f].budget then s
    else
      match s.newestOn f with
      | none => s
      | some g => State.cutGrants f n (s.endDefrost g.record (.revoked .budget none))

/-- SET_BUDGET (R92): the value is clamped to 4000; a raise runs a pass, and a cut below the granted sum revokes and then runs
one. -/
def State.doSetBudget (f : FeederNo) (value : Nat) (s : State) : State × MasterReply :=
  let b := min value Config.maxBudget
  let old := s.feeders[f]
  let set := s.setFeeder f { old with budget := b }
  let s :=
    if old.budget < b then set.grantPass
    else if b < old.budget ∧ b < old.granted then (set.cutGrants f set.grants.length).grantPass
    else set
  (s, .done (.budget s.feeders[f].budget s.feeders[f].granted))

/-! ## Requests on a resolved trailer -/

/-- DEFROST_REQUEST on a trailer (R96). -/
def State.doDefrostRequest (m : Master) (i : RecIdx) (s : State) : State × MasterReply :=
  match s.record? i with
  | none => (s, .busy)
  | some r =>
    if r.holds .defrost then (s, .busy)
    else
      let s := s.updRecord i fun r => { r with cancelLatch := false }
      let s := match s.entryOf i with
        | none => (s.joinQueue i Config.manualExcess true 0).raiseFor i (.frostDemandManual m)
        | some e => s.rewriteEntry { e with manual := true, excess := Config.manualExcess }
      (s.grantPass, .done .nothing)

/-- DEFROST_CANCEL on a trailer (R97). -/
def State.doDefrostCancel (i : RecIdx) (s : State) : State × MasterReply :=
  let latch (s : State) := s.updRecord i fun r => { r with cancelLatch := true }
  match s.record? i, s.entryOf i with
  | some _, some _ => (latch (s.leaveQueue i), .done .nothing)
  | some r, none =>
    if r.run.isSome then ((s.endDefrost i .cancelled).grantPass, .done .nothing) else (latch s, .done .nothing)
  | none, _ => (s, .done .nothing)

/-- REVOKE on a trailer that holds a defrost (R112): the deferral is in minutes. -/
def State.doRevoke (i : RecIdx) (deferral : Nat) (s : State) : State :=
  (s.endDefrost i (.revoked .revoke (some (deferral * 60)))).grantPass

/-! ## Source changes and the steps of a report -/

/-- Replaces the feeder of a record's grant in the run data and the grant list (R113, R114). -/
def State.regrantOn (i : RecIdx) (f : Option FeederNo) (s : State) : State :=
  let s := s.updRecord i fun r => { r with run := r.run.map fun d => { d with feeder := f } }
  { s with grants := s.grants.map fun g => if g.record = i then { g with feeder := f } else g }

/-- Step 4 of an accepted report: a grant whose report gives the other power source (R113, R114). -/
def State.sourceChange (i : RecIdx) (s : State) : State :=
  match s.record? i with
  | none => s
  | some r =>
    match r.run with
    | none => s
    | some d =>
      match r.source, d.feeder with
      | .diesel, some f => (s.discharge f d.load).regrantOn i none
      | .shore, none =>
        let f := (s.zoneOf r).feeder
        if s.fits f d.load then (s.charge f d.load).regrantOn i (some f)
        else s.endDefrost i (.revoked .source none)
      | .diesel, none => s
      | .shore, some _ => s

/-- Step 5 of an accepted report: the termination test of a running defrost (R107). -/
def State.terminationTest (i : RecIdx) (x : Readings) (s : State) : State :=
  match s.record? i with
  | none => s
  | some r =>
    if r.effective = .defrost ∧ x.echo = .heat ∧ (s.zoneOf r).terminationTemp ≤ x.coil then s.endDefrost i .terminated
    else s

/-- Step 8 of an accepted report: the excess recomputed, demand evaluated, and the pass that ends the step (R94, R95, R99). -/
def State.demandStep (i : RecIdx) (s : State) : State := ((s.recomputeExcess i).evaluateDemand i).grantPass

/-! ## The release and the readouts -/

/-- The scheduler's part of a release (R17 step 1, R109): a defrost ends as RELEASED with its pass; otherwise a queue entry
leaves. -/
def State.releaseDefrost (i : RecIdx) (s : State) : State :=
  match (s.record? i).bind TrailerRecord.run with
  | some _ => (s.endDefrost i .released).grantPass
  | none => s.leaveQueue i

/-- A queue entry as QUEUE_GET gives it now (R115). -/
def State.queueView (s : State) (e : QueueEntry) : Option QueueView :=
  (s.record? e.record).map fun r =>
    { tag := r.tag, bay := r.bay, excess := e.excess, manual := e.manual, passCount := e.passCount,
      pinned := e.isPinned, source := r.source, feeder := s.feederOf r, load := s.loadOf r, eligible := s.eligible r,
      notBefore := r.notBefore }

/-- The position after a page of a list: none is "end" (R115, R116, R151). -/
def nextPosition (start page length : Nat) : Option Nat := if start + page < length then some (start + page) else none

/-- QUEUE_GET (R115). -/
def State.doQueueGet (start : Nat) (s : State) : State × MasterReply :=
  (s, .done (.queue (((s.queue.drop start).take Config.queuePage).filterMap s.queueView)
    (nextPosition start Config.queuePage s.queue.length)))

/-- A grant list item as FEEDER_GET gives it (R116). -/
def State.grantView (s : State) (g : GrantItem) : Option GrantView :=
  (s.record? g.record).map fun r =>
    { number := g.number, tag := r.tag, load := g.load, running := r.effective = .defrost,
      heating := (r.run.map RunData.heating).getD 0 }

/-- FEEDER_GET (R116): for DIESEL the budget and sum are absent. -/
def State.doFeederGet (choice : FeederChoice) (start : Nat) (s : State) : State × MasterReply :=
  let items := s.grants.filter fun g => g.feeder = choice
  (s, .done (.feeder (choice.map fun f => s.feeders[f])
    (((items.drop start).take Config.queuePage).filterMap s.grantView)
    (nextPosition start Config.queuePage items.length)))

end Sys2Proof.Machine
end

