-- ==== Sys2Proof/Machine/Translate.lean ====
section
/-! DEFINITION. The Tag Translator (chapter 2): the Tag Cache, lookups, and the pool search engine. -/

namespace Sys2Proof.Machine

open Sys2Proof

/-- A trailer as a resolution found it (R8). -/
structure Resolved where
  record : RecIdx
  bay : BayAddr
  rights : Rights
  path : Path
  deriving DecidableEq, Repr

/-- The answer of a lookup: found, not found, or a place at the pool search engine (R27, R28). -/
inductive Answer where
  | found (r : Resolved)
  | notFound
  | waiting
  deriving DecidableEq, Repr

/-! ## The Tag Cache -/

/-- The set a tag belongs to: the tag modulo 4 (R25). -/
def tagSet (t : Tag) : Fin 4 := ⟨t.toNat % 4, Nat.mod_lt _ (by decide)⟩

/-- The ways of a set, lowest first. -/
def allWays : List (Fin 4) := List.finRange 4

/-- The way of a set that holds a valid entry for a tag. -/
def CacheSet.wayOf (c : CacheSet) (t : Tag) : Option (Fin 4) :=
  allWays.find? fun w => (c.ways[w]).any fun e => e.tag = t

/-- A way made the most recent of its set; the others keep their order (R26). -/
def CacheSet.touch (c : CacheSet) (w : Fin 4) : CacheSet :=
  { c with recency := w :: c.recency.filter fun v => v ≠ w }

/-- The way a fill takes: that of the tag's own entry, else the lowest invalid way, else the least recent (R26). -/
def CacheSet.wayToFill (c : CacheSet) (t : Tag) : Fin 4 :=
  match c.wayOf t with
  | some w => w
  | none =>
    match allWays.find? fun w => (c.ways[w]).isNone with
    | some w => w
    | none => c.recency.getLast?.getD 0

/-- A fill of a set: the entry is written and becomes the most recent (R26). -/
def CacheSet.fill (c : CacheSet) (e : CacheEntry) : CacheSet :=
  let w := c.wayToFill e.tag
  CacheSet.touch { c with ways := c.ways.set w (some e) } w

/-- An invalidation in a set: the tag's entry, if any, goes and leaves the recency order (R35). -/
def CacheSet.invalidate (c : CacheSet) (t : Tag) : CacheSet :=
  match c.wayOf t with
  | none => c
  | some w => { ways := c.ways.set w none, recency := c.recency.filter fun v => v ≠ w }

/-- The cache with one set replaced. -/
def State.setCacheSet (s : State) (k : Fin 4) (c : CacheSet) : State := { s with cache := s.cache.set k c }

/-- A cache fill (R26). -/
def State.fillCache (e : CacheEntry) (s : State) : State :=
  s.setCacheSet (tagSet e.tag) (s.cache[tagSet e.tag].fill e)

/-- The invalidation of a tag (R35). -/
def State.invalidateTag (t : Tag) (s : State) : State := s.setCacheSet (tagSet t) (s.cache[tagSet t].invalidate t)

/-- FLUSH_TAGS (R36): every way invalid, every recency order empty. -/
def State.doFlushTags (s : State) : State × MasterReply :=
  ({ s with cache := Vector.replicate 4 CacheSet.cold }, .done .nothing)

/-! ## Lookups -/

/-- A miss reaches the engine: it starts if IDLE, and otherwise joins the tail of the search wait list (R28). -/
def State.startSearch (q : Search) (s : State) : State :=
  match s.engine with
  | none => { s with engine := some q }
  | some _ => { s with waitList := s.waitList ++ [q] }

/-- The valid entry of a tag and its way (R27). -/
def State.cacheHit (s : State) (t : Tag) : Option (Fin 4 × CacheEntry) :=
  (s.cache[tagSet t].wayOf t).bind fun w => (s.cache[tagSet t].ways[w]).map fun e => (w, e)

/-- A lookup by tag (R27): a hit is answered from the cache, the zero tag is not found, and a miss goes to the engine. -/
def State.lookup (w : Waiter) (t : Tag) (s : State) : State × Answer :=
  if t = 0 then (s, .notFound)
  else
    match s.cacheHit t with
    | some (way, e) =>
      (s.setCacheSet (tagSet t) (s.cache[tagSet t].touch way),
        .found { record := e.record, bay := e.bay, rights := e.rights, path := .cached })
    | none => (s.startSearch { waiter := w, tag := t }, .waiting)

/-- The outcome of a search at its completion, from the map as it then stands, with the cache filled where it found its tag
(R29, R30, R31). -/
def State.searchResult (t : Tag) (s : State) : State × Answer :=
  match s.findTag t with
  | none => (s, .notFound)
  | some i =>
    match s.record? i with
    | none => (s, .notFound)
    | some r =>
      (s.fillCache { tag := t, record := i, bay := r.bay, rights := s.rightsAt r.bay },
        .found { record := i, bay := r.bay, rights := s.rightsAt r.bay, path := .walked })

/-- The engine takes the oldest waiter, or becomes IDLE (R28). -/
def State.nextSearch (s : State) : State := { s with engine := s.waitList.head?, waitList := s.waitList.tail }

/-! ## Resolution by bay address -/

/-- A subject named by bay address (R8, R34): the level of a NOT_PRESENT, or the trailer on the WALKED path. -/
def State.resolveBay (s : State) (b : BayAddr) : Except Level Resolved :=
  if s.zones[b.zone].isOpen then
    match (s.bayAt b).occupant with
    | none => .error .bay
    | some i => .ok { record := i, bay := b, rights := s.rightsAt b, path := .walked }
  else .error .zone

end Sys2Proof.Machine
end

