-- ==== Sys2Proof/Machine/Checks.lean ====
section
/-! DEFINITION. The Check List as the masters work it (sections 8.3 to 8.7): issue order, CHECK_ADD, NEXT_CHECK, CHECK_CLOSE,
timeouts, the release and CHECK_LIST. -/

namespace Sys2Proof.Machine

open Sys2Proof

/-! ## Issue order -/

/-- Whether an item stands strictly ahead of another in issue order by priority and created-at (R142). -/
def CheckItem.ahead (a b : CheckItem) : Bool :=
  match a.priority, b.priority with
  | .urgent, .normal => true
  | .normal, .urgent => false
  | _, _ => a.createdAt.earlier b.createdAt

/-- Puts an item before the first that does not stand strictly ahead of it. -/
def insertItem (a : CheckItem) : List CheckItem → List CheckItem
  | [] => [a]
  | b :: rest => if b.ahead a then b :: insertItem a rest else a :: b :: rest

/-- Items in issue order; items that tie keep the order in which they were added (R142). -/
def issueOrder : List CheckItem → List CheckItem
  | [] => []
  | a :: rest => insertItem a (issueOrder rest)

/-- Whether an item is PENDING. -/
def CheckItem.isPending (it : CheckItem) : Bool := it.state = .pending

/-- How many items are ISSUED (R143). -/
def State.issuedCount (s : State) : Nat := (s.checks.filter fun it => !it.isPending).length

/-- The first PENDING item in issue order that a NEXT_CHECK has not considered (R143 step 2). -/
def State.nextPending (s : State) (considered : List Nat) : Option CheckItem :=
  (issueOrder s.checks).find? fun it => it.isPending && !considered.contains it.serial

/-! ## NEXT_CHECK -/

/-- The item a NEXT_CHECK is answered with (R145). -/
def CheckItem.issuedView (it : CheckItem) (b : BayAddr) : IssuedView :=
  { tag := it.tag, bay := b, kind := it.kind, priority := it.priority, origin := it.origin, createdAt := it.createdAt,
    reissues := it.reissues }

/-- The issue of an item, with its reply (R145). -/
def State.issueItem (it : CheckItem) (b : BayAddr) (s : State) : State × Option MasterReply :=
  ({ s with checks := s.checks.map fun x => if x.serial = it.serial then { x with state := .issued s.now 0 } else x },
    some (.done (.issued (it.issuedView b))))

/-- NEXT_CHECK from its step 2 on (R143, R144): each PENDING item not yet considered is looked up in turn; a lookup that misses
leaves the port holding the request. `n` bounds the items considered, and the length of the list is enough. -/
def State.offerItems (m : Master) : (n : Nat) → (considered : List Nat) → State → State × Option MasterReply
  | 0, _, s => (s, some (.empty .nothing))
  | n + 1, considered, s =>
    match s.nextPending considered with
    | none => (s, some (.empty .nothing))
    | some it =>
      match s.lookup (.master m) it.tag with
      | (s, .found r) =>
        if r.rights.check then s.issueItem it r.bay else State.offerItems m n (it.serial :: considered) s
      | (s, .notFound) => State.offerItems m n (it.serial :: considered) s
      | (s, .waiting) => (s.setActivity m.port (.waiting (.nextCheck considered it.serial)), none)

/-- NEXT_CHECK as it is taken (R143). -/
def State.startNextCheck (m : Master) (s : State) : State × Option MasterReply :=
  if Config.issuePlaces ≤ s.issuedCount then (s, some .full) else s.offerItems m s.checks.length []

/-- A NEXT_CHECK whose item's search has been answered (R143 steps 3 and 4): the item is issued where it is still in the list
and PENDING and the answer has CHECK, and otherwise it is passed over. -/
def State.resumeNextCheck (m : Master) (considered : List Nat) (serial : Nat) (a : Answer) (s : State) :
    State × Option MasterReply :=
  let passOver := s.offerItems m s.checks.length (serial :: considered)
  match a, s.checks.find? fun it => it.serial = serial with
  | .found r, some it => if it.isPending && r.rights.check then s.issueItem it r.bay else passOver
  | _, _ => passOver

/-! ## CHECK_ADD and CHECK_CLOSE -/

/-- CHECK_ADD on a trailer (R141). -/
def State.doCheckAdd (i : RecIdx) (k : CheckKind) (p : Priority) (s : State) : State × MasterReply :=
  match s.record? i with
  | none => (s, .full)
  | some r =>
    match s.askItem { tag := r.tag, record := i, kind := k, priority := p, origin := .manual, createdAt := s.now } with
    | (s, .merged) => (s, .done (.added true))
    | (s, .appended) => (s, .done (.added false))
    | (s, .refused) => (s, .full)

/-- The further effect of a close result (Table 8-4). -/
def State.closeEffect (m : Master) (i : RecIdx) (result : CloseResult) (s : State) : State :=
  match result with
  | .secure => s
  | .ajar => s
  | .damaged => s.raiseFor i (.doorDamaged m)
  | .fuel level refuelled => s.postFuel i level refuelled

/-- CHECK_CLOSE on a trailer that has an item of the kind (R147): the item goes first, then the further effect. -/
def State.closeItem (m : Master) (i : RecIdx) (t : Tag) (result : CloseResult) (s : State) : State :=
  State.closeEffect m i result { s with checks := s.checks.filter fun it => !it.isFor t result.kind }

/-! ## Timeout and release -/

/-- The timeout of an ISSUED item (R148 steps 1 to 4, without the event): PENDING again, the count raised up to 3, and URGENT
once it reaches 3. -/
def CheckItem.timedOut (it : CheckItem) : CheckItem :=
  { it with
    state := .pending
    reissues := if it.reissues < Config.escalateCount then it.reissues + 1 else it.reissues
    priority := if it.reissues + 1 < Config.escalateCount then it.priority else .urgent }

/-- The timeout of a trailer's ISSUED item of a kind, with CHECK_ESCALATED where the count reaches or stands at 3 (R148). -/
def State.timeoutItem (i : RecIdx) (k : CheckKind) (s : State) : State :=
  match s.checks.find? fun it => it.record = i && it.kind = k && !it.isPending with
  | none => s
  | some it =>
    let s := { s with checks := s.checks.map fun x => if x.serial = it.serial then x.timedOut else x }
    if Config.escalateCount ≤ it.timedOut.reissues then
      s.raiseFor i (.checkEscalated it.kind it.origin it.timedOut.reissues)
    else s

/-- The Round and Check Unit's part of a release: every item of the tag goes (R150). -/
def State.forgetChecks (t : Tag) (s : State) : State := { s with checks := s.checks.filter fun it => it.tag ≠ t }

/-! ## CHECK_LIST -/

/-- A check item as CHECK_LIST gives it, at the bay its trailer now stands in (R151). -/
def State.checkView (s : State) (it : CheckItem) : Option CheckView :=
  (s.record? it.record).map fun r =>
    { tag := it.tag, bay := r.bay, kind := it.kind, priority := it.priority, origin := it.origin,
      issued := !it.isPending, createdAt := it.createdAt
      issuedAt := match it.state with
        | .pending => none
        | .issued t _ => some t
      seconds := match it.state with
        | .pending => 0
        | .issued _ n => n
      reissues := it.reissues }

/-- CHECK_LIST (R151). -/
def State.doCheckList (start : Nat) (s : State) : State × MasterReply :=
  (s, .done (.checks ((((issueOrder s.checks).drop start).take Config.checkPage).filterMap s.checkView)
    (nextPosition start Config.checkPage s.checks.length)))

end Sys2Proof.Machine
end

