-- ==== Sys2Proof/Machine/Yard.lean ====
section
/-! DEFINITION. The Yard Map's own requests (chapter 1): zones, bays, placement, release, office fields, views and scans. -/

namespace Sys2Proof.Machine

open Sys2Proof

/-! ## Zones and bays -/

/-- The addresses of a zone's bays, in rising bay number. -/
def zoneBays (z : Fin 8) : List BayAddr := (List.finRange 16).map fun b => ⟨z, b⟩

/-- Whether any bay of a zone is occupied (R2). -/
def State.zoneOccupied (s : State) (z : Fin 8) : Bool := (zoneBays z).any fun b => (s.bayAt b).occupant.isSome

/-- Whether a record holds a SHORE grant: run data whose feeder is present (R2). -/
def TrailerRecord.shoreGrant (r : TrailerRecord) : Bool := (r.run.bind RunData.feeder).isSome

/-- Whether a record standing in a zone holds a SHORE grant (R2). -/
def State.zoneHasShoreGrant (s : State) (z : Fin 8) : Bool :=
  allRecords.any fun i => (s.record? i).any fun r => r.bay.zone = z && r.shoreGrant

/-- ZONE_SET (R2), past its range test. -/
def State.doZoneSet (z : Fin 8) (e : Zone) (s : State) : State × MasterReply :=
  let old := s.zones[z]
  if old.isOpen ∧ ¬ e.isOpen ∧ s.zoneOccupied z then (s, .busy)
  else if e.feeder ≠ old.feeder ∧ s.zoneHasShoreGrant z then (s, .busy)
  else ({ s with zones := s.zones.set z e }, .done .nothing)

/-- ZONE_GET (R1). -/
def State.doZoneGet (z : Fin 8) (s : State) : State × MasterReply := (s, .done (.zone s.zones[z]))

/-- BAY_SET (R5): rights and lock are written, and occupancy is not touched. -/
def State.doBaySet (b : BayAddr) (rights : Rights) (locked : Bool) (s : State) : State × MasterReply :=
  (s.setBay b { s.bayAt b with rights := rights, locked := locked }, .done .nothing)

/-! ## Placement -/

/-- A record at PLACE (Table 1-2). -/
def TrailerRecord.placed (t : Tag) (b : BayAddr) (source : Option Source) (load : Option Nat) (threshold : Nat) :
    TrailerRecord :=
  { tag := t, bay := b, source := source.getD .shore, heaterLoad := load, thresholdOverride := none,
    unitState := .awaiting, readings := none, reportAge := 0, lastSequence := none, doorHistory := none,
    doorOpenSince := none, alarmMark := false, frost := 0, threshold := threshold, fuelRef := none, fuelAge := 0,
    burnRate := 0, runway := Config.runwayUnknown, fuelLow := false, lastRefuel := none,
    chain := [{ kind := .cool, covered := none, setBy := none }], run := none, notBefore := 0, cancelLatch := false,
    slot := .empty, sequence := 0, seen := false, changed := true }

/-- PLACE, once its tag has been found not placed (R15): the bay and pool tests, and the placing. -/
def State.doPlace (t : Tag) (b : BayAddr) (source : Option Source) (load : Option Nat) (s : State) :
    State × MasterReply :=
  if (s.bayAt b).occupant.isSome then (s, .busy)
  else
    match s.firstFree with
    | none => (s, .full)
    | some i =>
      let r := TrailerRecord.placed t b source load s.zones[b.zone].frostThreshold
      (((s.setRecord i (some r)).setBay b { s.bayAt b with occupant := some i }).invalidateTag t, .done (.placed i))

/-- MOVE on a resolved trailer, past the lock test (R16). -/
def State.doMove (i : RecIdx) (t : Tag) (b : BayAddr) (s : State) : State × MasterReply :=
  match s.record? i with
  | none => (s, .busy)
  | some r =>
    if ¬ s.zones[b.zone].isOpen then
      (s, .notPresent { level := .zone, access := .act, path := .walked, name := .bay b })
    else if (s.bayAt b).occupant.isSome then (s, .busy)
    else if (r.run.bind RunData.feeder).any fun f => f ≠ s.zones[b.zone].feeder then (s, .busy)
    else
      let s := s.setBay r.bay { s.bayAt r.bay with occupant := none }
      let s := s.setBay b { s.bayAt b with occupant := some i }
      let s := s.updRecord i fun r => { r with bay := b }
      (s.invalidateTag t, .done .nothing)

/-- RELEASE on a resolved trailer, past the lock test: each owner's part in the order of R17. -/
def State.doRelease (i : RecIdx) (t : Tag) (s : State) : State × MasterReply :=
  match s.record? i with
  | none => (s, .done .nothing)
  | some r =>
    let s := s.releaseDefrost i
    let s := s.forgetCommands i
    let s := s.forgetChecks t
    let s := s.invalidateTag t
    let s := s.setBay r.bay { s.bayAt r.bay with occupant := none }
    (s.setRecord i none, .done .nothing)

/-! ## Views -/

/-- The runway as either view gives it: absent while the source is SHORE (R19, R65). -/
def TrailerRecord.shownRunway (r : TrailerRecord) : Option Nat :=
  match r.source with
  | .shore => none
  | .diesel => some r.runway

/-- The full view of a record (R19). -/
def State.fullView (s : State) (r : TrailerRecord) : FullView :=
  { tag := r.tag, bay := r.bay, source := r.source, heaterLoad := r.heaterLoad,
    thresholdOverride := r.thresholdOverride, unitState := r.unitState, readings := r.readings,
    reportAge := r.reportAge, lastSequence := r.lastSequence, doorOpenSince := r.doorOpenSince, frost := r.frost,
    level := r.level, threshold := r.threshold, fuelRef := r.fuelRef, fuelAge := r.fuelAge, burnRate := r.burnRate,
    runway := r.shownRunway, fuelLow := r.fuelLow, lastRefuel := r.lastRefuel, chain := r.chain,
    effective := r.effective, wanted := r.effective.wanted, defrost := r.defrostState, run := r.run,
    notBefore := r.notBefore, cancelLatch := r.cancelLatch, slot := r.slot, sequence := r.sequence, seen := r.seen,
    changed := r.changed, rights := s.rightsAt r.bay, locked := (s.bayAt r.bay).locked }

/-- The patrol view of a record (R19). DESIGN CHOICE: R19 gives the kinds of the PENDING items in no order, and the model lists
them as the items were added to the Check List (log 21). -/
def State.patrolView (s : State) (r : TrailerRecord) : PatrolView :=
  { tag := r.tag, bay := r.bay, chain := r.chain, door := r.readings.map Readings.door,
    fuel := r.readings.bind Readings.fuel, runway := r.shownRunway,
    pendingChecks := (s.checks.filter fun it => it.tag = r.tag && it.isPending).map CheckItem.kind }

/-- RECORD_GET on a resolved trailer (R19): the full view to OFC, the patrol view to PAT. -/
def State.doRecordGet (m : Master) (i : RecIdx) (s : State) : State × MasterReply :=
  match s.record? i, m with
  | some r, .ofc => (s, .done (.full (s.fullView r)))
  | some r, _ => (s, .done (.patrol (s.patrolView r)))
  | none, _ => (s, .busy)

/-- COLLECT on a resolved trailer (R21): the full view as it stands, and then the changed flag cleared. -/
def State.doCollect (i : RecIdx) (s : State) : State × MasterReply :=
  match s.record? i with
  | none => (s, .busy)
  | some r => (s.setRecord i (some { r with changed := false }), .done (.full (s.fullView r)))

/-- RECORD_EDIT on a resolved trailer, past the lock test (R20). -/
def State.doRecordEdit (i : RecIdx) (load override : Option Nat) (s : State) : State × MasterReply :=
  match s.record? i with
  | none => (s, .busy)
  | some r =>
    if r.holds .defrost then (s, .busy)
    else (s.updRecord i fun r => { r with heaterLoad := load, thresholdOverride := override }, .done .nothing)

/-! ## Seen, changed and scans -/

/-- SWEEP_SEEN (R22). -/
def State.doSweepSeen (s : State) : State × MasterReply :=
  ({ s with records := Vector.ofFn fun i => (s.record? i).map fun r => { r with seen := false } }, .done .nothing)

/-- The placed records with the changed flag set, from an index on, in rising order (R23). -/
def State.changedFrom (s : State) (start : RecIdx) : List (RecIdx × Tag) :=
  allRecords.filterMap fun i =>
    (s.record? i).bind fun r => if start ≤ i ∧ r.changed then some (i, r.tag) else none

/-- SCAN_CHANGED (R23): at most 24 tags, then the index after the last one listed, or end. -/
def State.doScanChanged (start : RecIdx) (s : State) : State × MasterReply :=
  let all := s.changedFrom start
  let page := all.take Config.scanPage
  let next := if Config.scanPage < all.length then page.getLast?.map fun x => x.1.val + 1 else none
  (s, .done (.scan (page.map Prod.snd) next))

end Sys2Proof.Machine
end

