-- ==== Sys2Proof/Machine/Reports.lean ====
section
/-! DEFINITION. The Report Intake (chapter 3): the arrival of a report, the work on the FIFO's head, and the application of
an accepted report in the order of Table 3-4. -/

namespace Sys2Proof.Machine

open Sys2Proof

/-! ## Decoding and clamping -/

/-- The mode a mode echo byte names; none is a malformed report (R40, Table 10-2). -/
def ModeEcho.ofCode (b : Byte) : Option ModeEcho :=
  match b.toNat with
  | 1 => some .cool
  | 2 => some .heat
  | 3 => some .fansOff
  | 4 => some .standby
  | 5 => some .off
  | _ => none

/-- A temperature clamped to −400..+600 (R46). -/
def clampTemp (x : Int) : Int := max (-400) (min 600 x)

/-- A humidity or fuel reading clamped to 0..100 (R46). -/
def clampPercent (n : Nat) : Nat := min n 100

/-- A confirmation above 15 is read as absent (R40). -/
def UnitReport.confirmed (u : UnitReport) : Option Nat :=
  u.confirmation.bind fun n => if n ≤ 15 then some n else none

/-- The readings of an accepted report, clamped, with its arrival stamp as the reading time (R46, R55). -/
def UnitReport.readings (u : UnitReport) (echo : ModeEcho) : Readings :=
  { returnAir := clampTemp u.returnAir, coil := clampTemp u.coil, ambient := clampTemp u.ambient,
    humidity := u.humidity.map clampPercent, door := u.door, fuel := u.fuel.map clampPercent, echo := echo,
    readAt := u.arrival }

/-! ## Arrival -/

/-- A report arrives (R41): it joins the FIFO stamped with yard time, or is refused on a full FIFO with INTAKE_OVERRUN. -/
def State.arrive (u : UnitReport) (s : State) : State × UnitStatus :=
  if s.fifo.length < Config.intakeDepth then
    ({ s with fifo := s.fifo ++ [{ u with arrival := s.now }] }, .reportTaken)
  else (s.raise ⟨.absent, .intakeOverrun u.tag u.sequence⟩, .reportRefused)

/-! ## The head -/

/-- The head leaves the FIFO and the Report Intake becomes IDLE (R42, R44). -/
def State.dropHead (s : State) : State := { s with fifo := s.fifo.tail, intake := .idle }

/-- The head is discarded as of an unknown tag, and UNKNOWN_UNIT is raised (R31, R44). -/
def State.discardUnknown (u : UnitReport) (s : State) : State :=
  (s.raise ⟨.tagAlone u.tag, .unknownUnit u.sequence⟩).dropHead

/-- The head's lookup is answered (R43). -/
def State.answerIntake (a : Answer) (s : State) : State :=
  match a, s.fifo with
  | .found r, _ => { s with intake := .translated r.record }
  | .notFound, u :: _ => s.discardUnknown u
  | .notFound, [] => { s with intake := .idle }
  | .waiting, _ => { s with intake := .translating }

/-- The Report Intake takes the head (R43): nothing when it is at work or the FIFO is empty; a malformed head is discarded
with no lookup and no event (R40); otherwise its tag is looked up. -/
def State.takeHead (s : State) : State :=
  match s.intake, s.fifo with
  | .idle, u :: _ =>
    match ModeEcho.ofCode u.echoCode with
    | none => s.dropHead
    | some _ =>
      let r := s.lookup .intake u.tag
      r.1.answerIntake r.2
  | _, _ => s

/-! ## The steps of an accepted report -/

/-- Δt, fixed at the start of the application (R48). -/
def timeStep (r : TrailerRecord) : Nat :=
  match r.lastSequence with
  | none => 0
  | some _ => min r.reportAge Config.maxTimeStep

/-- Step 1 (R55): the door history, the readings, the source, the sequence, the age and the unit state. -/
def State.storeReport (i : RecIdx) (u : UnitReport) (x : Readings) (s : State) : State :=
  s.updRecord i fun r =>
    { r with doorHistory := some u.door, readings := some x, source := u.source, lastSequence := some u.sequence,
             reportAge := 0, unitState := .live }

/-- Step 3 (R51, R52): an opening starts a count and pushes DOOR_HOLD; a closing ends it and removes DOOR_HOLD. -/
def State.doorStep (i : RecIdx) (door : Door) (previous : Option Door) (s : State) : State :=
  match door with
  | .opened =>
    if previous = some .opened then s
    else
      (s.updRecord i fun r => { r with doorOpenSince := some 0, alarmMark := false }).pushActivity i .doorHold none
  | .closed =>
    if previous = some .closed then s
    else (s.updRecord i fun r => { r with doorOpenSince := none, alarmMark := false }).removeActivity i .doorHold

/-- Step 9 (R56): seen and changed are both set. -/
def State.markSeen (i : RecIdx) (s : State) : State :=
  s.updRecord i fun r => { r with seen := true, changed := true }

/-- The application of an accepted report, in the order of Table 3-4 (R54). -/
def State.applyReport (i : RecIdx) (r : TrailerRecord) (u : UnitReport) (echo : ModeEcho) (s : State) : State :=
  let x := u.readings echo
  let previous := r.doorHistory
  let s := s.storeReport i u x
  let s := s.frostUpdate i x previous (timeStep r)
  let s := s.fuelUpdate i u.source x
  let s := s.doorStep i u.door previous
  let s := s.sourceChange i
  let s := s.terminationTest i x
  let s := s.matchConfirmation i u.confirmed
  let s := s.requeueOnEcho i echo
  let s := s.demandStep i
  s.markSeen i

/-- The head is applied to the record its lookup found (R44, R45): discarded as unknown where the record no longer holds the
tag, silently where it is a duplicate, and otherwise accepted. DESIGN CHOICE: only the record as it now stands is tested (R18, and
the first case of R44), so a report goes on where a RELEASE and a PLACE since its lookup have put the same tag back in the same
record; the second case of R44 also names "a PLACE that reuses the record", and could be read to discard it (log 23). -/
def State.applyHead (s : State) : State :=
  match s.intake, s.fifo with
  | .translated i, u :: _ =>
    match s.record? i with
    | none => s.discardUnknown u
    | some r =>
      if r.tag ≠ u.tag then s.discardUnknown u
      else if r.lastSequence = some u.sequence then s.dropHead
      else
        match ModeEcho.ofCode u.echoCode with
        | none => s.dropHead
        | some echo => (s.applyReport i r u echo).dropHead
  | _, _ => s

end Sys2Proof.Machine
end

