-- ==== Sys2Proof/Machine/Requests.lean ====
section
/-! DEFINITION. A master request from its range test on: the resolution of its subject, its right or lock test, its owning
block, and the resumption of a request whose lookup waited (R8 to R14, R28, R30, R31), with the requests of the Link Front
itself (CONFIG, STATUS). -/

namespace Sys2Proof.Machine

open Sys2Proof

/-! ## What a request asks for -/

/-- The trailer a request names, and in which form; PLACE is not among them, since its tag names no placed trailer (R8). -/
def Request.name : Request → Option Subject
  | .move t _ => some (.tag t)
  | .release t => some (.tag t)
  | .checkClose t _ => some (.tag t)
  | .recordGet n => some n
  | .recordEdit n _ _ => some n
  | .collect n => some n
  | .defrostRequest n => some n
  | .defrostCancel n => some n
  | .holdSet n => some n
  | .holdClear n => some n
  | .fuelPost n _ _ => some n
  | .checkAdd n _ _ => some n
  | .revoke n _ => some n
  | .zoneSet _ _ | .zoneGet _ | .baySet _ _ _ | .place _ _ _ _ | .scanChanged _ | .sweepSeen | .flushTags | .clockSet _ _
  | .clockTrim | .clockGet | .planSet _ _ | .planGet _ | .linkSet _ _ | .linkGet _ | .configSet _ | .configGet
  | .checkList _ | .queueGet _ | .feederGet _ _ | .fetchNotice | .holdNotices | .releaseNotices | .statusGet
  | .yardRestart | .setBudget _ _ | .nextCheck => none

/-- The access kind of a request (R9). -/
def Request.access (req : Request) : Access :=
  match req.kind with
  | .recordGet | .collect => .read
  | _ => .act

/-- The right a request from CAB or PAT needs on its trailer (Table 1-3). Requests from OFC need none. -/
def Request.rightNeeded (m : Master) (req : Request) : Option Right :=
  match m, req.kind with
  | .ofc, _ => none
  | _, .revoke => some .defrost
  | _, .defrostRequest => some .defrost
  | _, .holdSet => some .hold
  | _, .holdClear => some .hold
  | _, .checkClose => some .check
  | _, .fuelPost => some .check
  | _, _ => none

/-- The level of a RIGHTS refusal (R11). -/
def State.refusalLevel (s : State) (res : Resolved) (right : Right) : Level :=
  match res.path with
  | .cached => .record
  | .walked => if s.zones[res.bay.zone].rights.has right then .bay else .zone

/-- Whether the lock test of R14 refuses a request: STRICT is on, and the bay of the trailer is locked, or for MOVE the target
bay. -/
def State.lockRefuses (s : State) (m : Master) (req : Request) (res : Resolved) : Bool :=
  match m, req with
  | .ofc, .recordEdit _ _ _ => s.settings.strict && (s.bayAt res.bay).locked
  | .ofc, .release _ => s.settings.strict && (s.bayAt res.bay).locked
  | .ofc, .move _ b => s.settings.strict && ((s.bayAt res.bay).locked || (s.bayAt b).locked)
  | _, _ => false

/-! ## Chain requests -/

/-- HOLD_SET on a trailer (R80). -/
def State.doHoldSet (m : Master) (i : RecIdx) (s : State) : State × MasterReply :=
  if (s.record? i).any fun r => r.holds .serviceHold then (s, .busy)
  else (s.pushActivity i .serviceHold (some m), .done .nothing)

/-- HOLD_CLEAR on a trailer that holds SERVICE_HOLD (R81): a return to [COOL] is passed to the scheduler (R84). -/
def State.doHoldClear (i : RecIdx) (s : State) : State × MasterReply :=
  let s := s.removeActivity i .serviceHold
  (if (s.record? i).any TrailerRecord.atBase then s.returnToCool i else s, .done .nothing)

/-! ## Configuration and status -/

/-- CONFIG_SET (R174). -/
def State.doConfigSet (v : SettingValue) (s : State) : State × MasterReply :=
  match v with
  | .strict on => ({ s with settings := { s.settings with strict := on } }, .done .nothing)
  | .humidityFallback n => ({ s with settings := { s.settings with humidityFallback := n } }, .done .nothing)
  | .doorWeight n => ({ s with settings := { s.settings with doorWeight := n } }, .done .nothing)
  | .checkTimeout n => ({ s with settings := { s.settings with checkTimeout := n } }, .done .nothing)
  | .attention m mode => (s.setAttention m mode, .done .nothing)

/-- CONFIG_GET (R174). -/
def State.doConfigGet (s : State) : State × MasterReply := (s, .done (.settings s.settings))

/-- How many records are placed (Table 10-8). -/
def State.placedCount (s : State) : Nat := (allRecords.filter fun i => (s.record? i).isSome).length

/-- The fields of STATUS_GET for a master (Table 10-8). -/
def State.statusView (s : State) (m : Master) : StatusView :=
  { mode := s.mode, cause := s.cause, restartSeen := s.restartSeen.get m, clockValid := s.clock.valid,
    placed := s.placedCount, queueLength := s.queue.length, checkItems := s.checks.length,
    intakeFill := s.fifo.length, notices := (s.desk m).notices.length, lost := (s.desk m).lost }

/-- STATUS_GET (R175): the asker's restart-seen flag is given as found, and then set to seen. -/
def State.doStatusGet (m : Master) (s : State) : State × MasterReply :=
  ({ s with restartSeen := s.restartSeen.set m true }, .done (.status (s.statusView m)))

/-! ## The owning block -/

/-- A request that names no placed trailer, past its range test. The last arm holds the requests that do name one, which go by
`State.actOn`, and PLACE and NEXT_CHECK, which go by `State.takeRequest`: no run reaches it. -/
def State.actPlain (m : Master) (req : Request) (s : State) : State × MasterReply :=
  match req with
  | .zoneSet z e => s.doZoneSet z e
  | .zoneGet z => s.doZoneGet z
  | .baySet b rights locked => s.doBaySet b rights locked
  | .scanChanged start => s.doScanChanged start
  | .sweepSeen => s.doSweepSeen
  | .flushTags => s.doFlushTags
  | .clockSet t w => s.doClockSet t w
  | .clockTrim => s.doClockTrim
  | .clockGet => s.doClockGet
  | .planSet p x => s.doPlanSet p x
  | .planGet p => s.doPlanGet p
  | .linkSet k e => s.doLinkSet k e
  | .linkGet k => s.doLinkGet k
  | .configSet v => s.doConfigSet v
  | .configGet => s.doConfigGet
  | .checkList start => s.doCheckList start
  | .queueGet start => s.doQueueGet start
  | .feederGet choice start => s.doFeederGet choice start
  | .fetchNotice => s.doFetch m
  | .holdNotices => s.doHoldNotices m
  | .releaseNotices => s.doReleaseNotices m
  | .statusGet => s.doStatusGet m
  | .yardRestart => (s, .done .nothing)
  | .setBudget f value => s.doSetBudget f value
  | .place _ _ _ _ | .move _ _ | .release _ | .recordGet _ | .recordEdit _ _ _ | .collect _ | .defrostRequest _
  | .defrostCancel _ | .holdSet _ | .holdClear _ | .fuelPost _ _ _ | .checkAdd _ _ _ | .checkClose _ _ | .revoke _ _
  | .nextCheck => (s, .busy)

/-- A request on a resolved trailer, past its right and lock tests. The last arm holds the requests that name no placed
trailer, which go by `State.actPlain`: no run reaches it. -/
def State.actOn (m : Master) (req : Request) (res : Resolved) (s : State) : State × MasterReply :=
  let absent (n : Subject) : MasterReply :=
    .notPresent { level := .record, access := .act, path := res.path, name := n }
  match req with
  | .recordGet _ => s.doRecordGet m res.record
  | .collect _ => s.doCollect res.record
  | .recordEdit _ load override => s.doRecordEdit res.record load override
  | .move t b => s.doMove res.record t b
  | .release t => s.doRelease res.record t
  | .defrostRequest _ => s.doDefrostRequest m res.record
  | .defrostCancel _ => s.doDefrostCancel res.record
  | .holdSet _ => s.doHoldSet m res.record
  | .holdClear n =>
    if (s.record? res.record).any fun r => r.holds .serviceHold then s.doHoldClear res.record else (s, absent n)
  | .fuelPost _ level refuelled => (s.postFuel res.record level refuelled, .done .nothing)
  | .checkAdd _ k p => s.doCheckAdd res.record k p
  | .checkClose t result =>
    if s.checks.any fun it => it.isFor t result.kind then (s.closeItem m res.record t result, .done .nothing)
    else (s, absent (.tag t))
  | .revoke n deferral =>
    if (s.record? res.record).any fun r => r.run.isSome then (s.doRevoke res.record deferral, .done .nothing)
    else (s, absent n)
  | .zoneSet _ _ | .zoneGet _ | .baySet _ _ _ | .place _ _ _ _ | .scanChanged _ | .sweepSeen | .flushTags | .clockSet _ _
  | .clockTrim | .clockGet | .planSet _ _ | .planGet _ | .linkSet _ _ | .linkGet _ | .configSet _ | .configGet
  | .checkList _ | .queueGet _ | .feederGet _ _ | .fetchNotice | .holdNotices | .releaseNotices | .statusGet
  | .yardRestart | .setBudget _ _ | .nextCheck => (s, .busy)

/-- A request whose trailer has been resolved: the right test for CAB and PAT, the lock test for OFC, then the owning block
(R9 steps 4 and 5, R11, R13, R14). -/
def State.judge (m : Master) (req : Request) (name : Subject) (res : Resolved) (s : State) : State × MasterReply :=
  match (req.rightNeeded m).filter fun right => !res.rights.has right with
  | some right =>
    let cause : Cause :=
      { level := s.refusalLevel res right, access := req.access, path := res.path, name := name }
    (s.raiseFor res.record (.rightsRefusal m cause), .rights cause)
  | none =>
    if s.lockRefuses m req res then
      (s, .rights { level := .bay, access := .act, path := res.path, name := name })
    else s.actOn m req res

/-- A NOT_PRESENT given because the named trailer could not be resolved (R8, R12, R31). -/
def Request.unresolved (req : Request) (name : Subject) (level : Level) : MasterReply :=
  .notPresent { level := level, access := req.access, path := .walked, name := name }

/-! ## Taking and resuming -/

/-- The port holds a request while its lookup waits (R28). -/
def State.hold (m : Master) (req : Request) (s : State) : State × Option MasterReply :=
  (s.setActivity m.port (.waiting (.request req)), none)

/-- A request goes on with its lookup's answer (R30, R31). `waiting` is no answer, and leaves the request held. -/
def State.goOn (m : Master) (req : Request) (a : Answer) (s : State) : State × Option MasterReply :=
  match a with
  | .waiting => s.hold m req
  | .found res =>
    match req with
    | .place _ _ _ _ => (s, some .busy)
    | _ =>
      match req.name with
      | some name =>
        let r := s.judge m req name res
        (r.1, some r.2)
      | none => (s, some .busy)
  | .notFound =>
    match req with
    | .place t b source load =>
      let r := s.doPlace t b source load
      (r.1, some r.2)
    | _ =>
      match req.name with
      | some name => (s, some (req.unresolved name .record))
      | none => (s, some .busy)

/-- A request whose trailer is named by tag, or PLACE's test of a tag: the tag is looked up (R8, R15, R27). -/
def State.lookupFor (m : Master) (req : Request) (t : Tag) (s : State) : State × Option MasterReply :=
  let r := s.lookup (.master m) t
  r.1.goOn m req r.2

/-- A master request past its range test (R9): it is answered at once, or held while its lookup waits. -/
def State.takeRequest (m : Master) (req : Request) (s : State) : State × Option MasterReply :=
  match req with
  | .nextCheck => s.startNextCheck m
  | .place t b _ _ =>
    if s.zones[b.zone].isOpen then s.lookupFor m req t
    else (s, some (.notPresent { level := .zone, access := .act, path := .walked, name := .bay b }))
  | _ =>
    match req.name with
    | none =>
      let r := s.actPlain m req
      (r.1, some r.2)
    | some (.tag t) => s.lookupFor m req t
    | some (.bay b) =>
      match s.resolveBay b with
      | .error level => (s, some (req.unresolved (.bay b) level))
      | .ok res =>
        let r := s.judge m req (.bay b) res
        (r.1, some r.2)

/-- What a port holds goes on with the answer of its search (R30, R31, R33). -/
def State.resume (m : Master) (held : Held) (a : Answer) (s : State) : State × Option MasterReply :=
  match held with
  | .request req => s.goOn m req a
  | .nextCheck considered item => s.resumeNextCheck m considered item a

/-- The kind byte of what a port holds, which its reply repeats (R170). -/
def Held.code : Held → Byte
  | .request req => req.kind.code
  | .nextCheck _ _ => Kind.nextCheck.code

end Sys2Proof.Machine
end

