-- ==== Sys2Proof/Machine/Links.lean ====
section
/-! DEFINITION. The Link Front (chapter 10): the judgement of a completed frame, PORT_BUSY, the sending of replies, and the
completion of replies and searches. -/

namespace Sys2Proof.Machine

open Sys2Proof

/-! ## Sending a reply -/

/-- The port begins a reply, which it repeats the kind byte in (R170). Once the DONE to YARD_RESTART has left, the part begins no
further frame until the restart acts (R176): the request has had its effects (R181), and the port stays BUSY with a reply that
the restart loses. DEDUCED (log 8). -/
def State.beginReply (p : PortId) (kind : Byte) (body : ReplyBody) (s : State) : State :=
  s.setActivity p (if s.restartDue then .awaitingRestart else .replying { kind := kind, body := body })

/-- The reply to a master request that was answered; one that was not is left held by its port. -/
def State.answer (m : Master) (kind : Byte) (r : State × Option MasterReply) : State :=
  match r.2 with
  | some reply => r.1.beginReply m.port kind (.master reply)
  | none => r.1

/-- A refusal made by the port itself, which changes no other state; on UNT it carries no command (R168). -/
def State.refuse (p : PortId) (kind : Byte) (master : MasterReply) (unit : UnitStatus) (s : State) : State :=
  s.beginReply p kind (match p with
    | .unt => .unit unit none
    | .ofc => .master master
    | .cab => .master master
    | .pat => .master master)

/-- A reply on UNT that asks the Unit Command Queue for a command (R123). -/
def State.replyUnit (kind : Byte) (status : UnitStatus) (s : State) : State :=
  let r := s.sendHead
  r.1.beginReply .unt kind (.unit status r.2)

/-! ## The judgement of a frame -/

/-- A frame taken on UNT (R41, R168): a report arrives, and a poll is answered at once. -/
def State.takeUnit (k : Kind) (body : List Byte) (s : State) : State :=
  match k, UnitReport.parse s.now body with
  | .unitReport, some u =>
    let r := s.arrive u
    r.1.replyUnit k.code r.2
  | _, _ => s.replyUnit k.code .pollReply

/-- A frame on a FREE port is judged (R168 tests 2 to 5). -/
def State.judgeFrame (p : PortId) (kind : Byte) (body : List Byte) (s : State) : State :=
  match Kind.ofCode kind with
  | none => s.refuse p kind .unknownKind .unknownKind
  | some k =>
    if ¬ k.allowedOn p then s.refuse p kind .wrongPort .wrongPort
    else if body.length ≠ k.bodyLength then s.refuse p kind .range .range
    else
      match p.master with
      | none => s.takeUnit k body
      | some m =>
        match Request.parse k body with
        | none => s.refuse p kind .range .range
        | some req => State.answer m kind (s.takeRequest m req)

/-- A frame completed on a BUSY port is discarded; a PORT_BUSY with its kind is owed, unless one is owed already or is being
sent (R169). -/
def State.oweBusy (p : PortId) (kind : Byte) (s : State) : State :=
  match (s.port p).activity, (s.port p).owed with
  | .answeringBusy _, _ => s
  | _, some _ => s
  | _, none => s.setPort p { s.port p with owed := some kind }

/-- A well-formed frame is complete on a port (R166, R168): out of service nothing is received (R178); the receiver is HUNTING
again; a FREE port judges the frame and a BUSY port discards it. -/
def State.receiveFrame (p : PortId) (kind : Byte) (body : List Byte) (s : State) : State :=
  if s.supply = .inService then
    let s := s.setPort p { s.port p with receiver := .hunting }
    match (s.port p).activity with
    | .free => s.judgeFrame p kind body
    | .waiting _ => s.oweBusy p kind
    | .replying _ => s.oweBusy p kind
    | .answeringBusy _ => s.oweBusy p kind
    | .awaitingRestart => s.oweBusy p kind
  else s

/-! ## What else happens on a line -/

/-- A receiver set, while the part is in service (R166, R178). -/
def State.setReceiver (p : PortId) (r : Receiver) (s : State) : State :=
  if s.supply = .inService then s.setPort p { s.port p with receiver := r } else s

/-- Whether a reply is the DONE to YARD_RESTART (R170). -/
def Reply.isRestart (r : Reply) : Bool :=
  r.kind = Kind.yardRestart.code && r.body = .master (.done .nothing)

/-- What a port does when its reply has left: FREE, or the PORT_BUSY it owes (R168, R169). -/
def Port.afterReply (x : Port) : Port :=
  match x.owed with
  | none => { x with activity := .free }
  | some k => { x with activity := .answeringBusy k, owed := none }

/-- What a port does when its DONE to YARD_RESTART has left: FREE, or BUSY to the restart with an answer it does not begin
(R170, R176). -/
def Port.afterRestartReply (x : Port) : Port :=
  match x.owed with
  | none => { x with activity := .free }
  | some _ => { x with activity := .awaitingRestart }

/-- The last byte of a reply, or of an owed PORT_BUSY, has left (R168 to R170). The DONE to YARD_RESTART is the last frame the
part sends before the restart acts (R176): until then no other frame's last byte leaves, on any port, and one still being sent is
lost by the restart. DEDUCED (log 8). -/
def State.completeReply (p : PortId) (s : State) : State :=
  let x := s.port p
  if s.restartDue then s
  else
    match x.activity with
    | .replying r =>
      if r.isRestart then { s.setPort p x.afterRestartReply with restartDue := true } else s.setPort p x.afterReply
    | .answeringBusy _ => s.setPort p { x with activity := .free }
    | .free => s
    | .waiting _ => s
    | .awaitingRestart => s

/-! ## Searches -/

/-- The answer of a search reaches the caller it was made for (R30, R31). A port that holds nothing is no caller, and no run
reaches it. -/
def State.deliver (w : Waiter) (a : Answer) (s : State) : State :=
  match w with
  | .intake => s.answerIntake a
  | .master m =>
    match (s.port m.port).activity with
    | .waiting held => State.answer m held.code (s.resume m held a)
    | .free => s
    | .replying _ => s
    | .answeringBusy _ => s
    | .awaitingRestart => s

/-- A pool search completes (R28 to R31): the cache is filled where it found its tag, the caller goes on, and the engine takes
the oldest waiter. -/
def State.completeSearch (s : State) : State :=
  match s.engine with
  | none => s
  | some q =>
    let r := s.searchResult q.tag
    (r.1.deliver q.waiter r.2).nextSearch

end Sys2Proof.Machine
end

