-- ==== Sys2Proof/Machine/Ticks.lean ====
section
/-! DEFINITION. The second tick: every count it advances, the consequences it brings about, and the taking of each of those
consequences as an event of its own. -/

namespace Sys2Proof.Machine

open Sys2Proof

/-! ## Counts -/

/-- One second on a count that saturates (R49, R53, R65). -/
def bump (n : Nat) : Nat := if n < Config.countTop then n + 1 else n

/-- Run data after a tick: heating seconds count while the defrost runs, paused seconds while it is paused (R86, R104). -/
def RunData.tick (d : RunData) (state : DefrostState) : RunData :=
  match state with
  | .running => { d with heating := d.heating + 1 }
  | .paused => { d with paused := d.paused + 1 }
  | .absent => d

/-- A command slot after a tick: the seconds since sending (R126). -/
def Slot.tick : Slot → Slot
  | .sent f => .sent { f with seconds := f.seconds + 1 }
  | .sentNext f c => .sentNext { f with seconds := f.seconds + 1 } c
  | .empty => .empty
  | .queued c => .queued c

/-- A placed record after a tick (R49, R53, R65, R86, R104, R105, R126). The changed flag does not follow a count (R21). -/
def TrailerRecord.tick (r : TrailerRecord) : TrailerRecord :=
  { r with
    reportAge := bump r.reportAge
    doorOpenSince := r.doorOpenSince.map bump
    fuelAge := if r.fuelRef.isSome then bump r.fuelAge else r.fuelAge
    run := r.run.map fun d => d.tick r.defrostState
    notBefore := r.notBefore - 1
    slot := r.slot.tick }

/-- A check item after a tick: the seconds since issue of an ISSUED item (R148). -/
def CheckItem.tick (it : CheckItem) : CheckItem :=
  { it with state := match it.state with
      | .pending => .pending
      | .issued t n => .issued t (n + 1) }

/-- A master's desk after a tick: the open-seconds of an open window (R164). -/
def Desk.tick (d : Desk) : Desk := { d with window := d.window.map fun n => n + 1 }

/-- Every record ticked. -/
def State.tickRecords (s : State) : State :=
  { s with records := Vector.ofFn fun i => (s.record? i).map TrailerRecord.tick }

/-! ## Consequences -/

/-- A consequence listed where its condition holds. -/
def listedIf (c : Bool) (e : TickEvent) : List TickEvent := if c then [e] else []

/-- What a tick brings about for a record: `r` as the tick has left it, `old` as it was before, `z` the zone it stands in (R50,
R53, R86, R104, R105, R126). -/
def dueOf (z : Zone) (i : RecIdx) (old r : TrailerRecord) : List TickEvent :=
  listedIf (old.reportAge + 1 = Config.staleAge && r.unitState ≠ .stale) (.silent i) ++
  listedIf (r.doorOpenSince.any (fun n => z.doorAlarm * 60 ≤ n) && !r.alarmMark) (.doorLong i) ++
  listedIf (r.defrostState = .paused && r.run.any fun d => z.holdLimit * 60 ≤ d.paused) (.abandon i) ++
  listedIf (r.defrostState = .running && r.run.any fun d => z.defrostMax * 60 ≤ d.heating) (.timeOut i) ++
  listedIf (old.notBefore = 1) (.waitOver i) ++
  listedIf (r.slot.flight.any fun f => Config.commandTimeout ≤ f.seconds) (.unconfirmed i)

/-- What a tick brings about for the record at an index, from the part as it was before the tick. -/
def State.dueAt (s : State) (i : RecIdx) : List TickEvent :=
  match s.record? i with
  | none => []
  | some r => dueOf (s.zoneOf r) i r r.tick

/-- Whether an item that was ticked has run its check timeout (R148). -/
def CheckItem.over (limit : Nat) (it : CheckItem) : Bool :=
  match it.state with
  | .pending => false
  | .issued _ n => limit * 60 ≤ n

/-- What a tick brings about, from the part as it was before the tick: the rollover of the minute, then the records in index
order, then the check items in list order, then the windows. -/
def State.dueOnTick (s : State) : List TickEvent :=
  listedIf s.clock.aboutToRoll .rollover ++ allRecords.flatMap s.dueAt ++
  ((s.checks.map CheckItem.tick).filter (CheckItem.over s.settings.checkTimeout)).map
    (fun it => .checkTimeout it.record it.kind) ++
  [Master.ofc, .cab, .pat].flatMap fun m =>
    listedIf ((s.desk m).tick.window.any fun n => Config.windowSeconds ≤ n) (.windowOver m)

/-- The tick in service: every count goes on, and its consequences become due. -/
def State.countTick (s : State) : State :=
  { s.tickRecords with
    clock := s.clock.tick
    checks := s.checks.map CheckItem.tick
    desks := ⟨s.desks.ofc.tick, s.desks.cab.tick, s.desks.pat.tick⟩
    due := s.dueOnTick }

/-! ## Taking a consequence -/

/-- A record becomes STALE, and UNIT_SILENT is raised (R50). -/
def State.fallSilent (i : RecIdx) (s : State) : State :=
  let s := s.updRecord i fun r => { r with unitState := .stale }
  s.raiseFor i (.unitSilent ((s.record? i).bind TrailerRecord.lastSequence))

/-- DOOR_OPEN_LONG is raised and the alarm mark set (R53). -/
def State.openLong (i : RecIdx) (s : State) : State :=
  match s.record? i with
  | none => s
  | some r => (s.updRecord i fun r => { r with alarmMark := true }).raiseFor i (.doorOpenLong (s.zoneOf r).doorAlarm)

/-- The defrost not-before has reached 0: the changed flag is set and a pass runs (R105). -/
def State.waitEnds (i : RecIdx) (s : State) : State := (s.updRecord i fun r => { r with changed := true }).grantPass

/-- A consequence of a tick is taken. -/
def State.take (e : TickEvent) (s : State) : State :=
  match e with
  | .rollover => s.testPlans
  | .silent i => s.fallSilent i
  | .doorLong i => s.openLong i
  | .abandon i => (s.endDefrost i .abandoned).grantPass
  | .timeOut i => (s.endDefrost i .timedOut).grantPass
  | .waitOver i => s.waitEnds i
  | .unconfirmed i => s.timeoutCommand i
  | .checkTimeout i k => s.timeoutItem i k
  | .windowOver m => s.closeWindow m

/-- Takes the consequences listed, each with the ones after it left due. -/
def State.takeAll : List TickEvent → State → State
  | [], s => { s with due := [] }
  | e :: rest, s => State.takeAll rest (State.take e { s with due := rest })

/-- Every consequence still due is taken, in the order listed. The manual leaves their order open (R50, R53, R99, R126, R148):
a consequence that is to come earlier comes as its own command. DESIGN CHOICE: the order, and that all are taken before any other
command (log 2). -/
def State.settle (s : State) : State := State.takeAll s.due s

/-- One consequence is taken where it is due; one that is not due is no event, and leaves the part as it is (log 2). -/
def State.takeDue (e : TickEvent) (s : State) : State :=
  if s.due.contains e then State.take e { s with due := s.due.erase e } else s

/-- A second tick, past the consequences of the one before: in service every count goes on, in STANDBY the Yard Clock alone
unless cold-pending is set, and an unpowered part counts nothing (R177, R178). -/
def State.secondTick (s : State) : State :=
  match s.supply with
  | .inService => s.countTick
  | .standby => if s.coldPending then s else { s with clock := s.clock.tick }
  | .unpowered => s

end Sys2Proof.Machine
end

