-- ==== Sys2Proof/Machine/Frames.lean ====
section
/-! DEFINITION. What every command that is not a consequence of a tick does first. -/

namespace Sys2Proof.Machine

open Sys2Proof

/-- A well-formed frame of a kind of Table 10-6 is complete on a port. What the last tick brought about is taken first (log 2). -/
def State.takeFrame (p : PortId) (k : Kind) (body : List Byte) (s : State) : State :=
  State.receiveFrame p k.code body s.settle

/-- A step the part takes of its own accord, which it takes in service only (R178). -/
def State.whenInService (s : State) (f : State → State) : State := if s.supply = .inService then f s else s

end Sys2Proof.Machine
end

