-- ==== Sys2Proof/Machine/DefrostCommands.lean ====
section
/-! DEFINITION. The frames that work on defrosts, holds and fuel (chapters 4 to 6). -/

namespace Sys2Proof.Machine

open Sys2Proof

/-- DEFROST_REQUEST (R96). -/
def execDefrostRequest (port : PortId) (body : List Byte) (s : State) : Host.Outcome State Fault Refusal :=
  .next (s.takeFrame port .defrostRequest body)

/-- DEFROST_CANCEL (R97). -/
def execDefrostCancel (port : PortId) (body : List Byte) (s : State) : Host.Outcome State Fault Refusal :=
  .next (s.takeFrame port .defrostCancel body)

/-- HOLD_SET (R80). -/
def execHoldSet (port : PortId) (body : List Byte) (s : State) : Host.Outcome State Fault Refusal :=
  .next (s.takeFrame port .holdSet body)

/-- HOLD_CLEAR (R81). -/
def execHoldClear (port : PortId) (body : List Byte) (s : State) : Host.Outcome State Fault Refusal :=
  .next (s.takeFrame port .holdClear body)

/-- FUEL_POST (R72). -/
def execFuelPost (port : PortId) (body : List Byte) (s : State) : Host.Outcome State Fault Refusal :=
  .next (s.takeFrame port .fuelPost body)

/-- QUEUE_GET (R115). -/
def execQueueGet (port : PortId) (body : List Byte) (s : State) : Host.Outcome State Fault Refusal :=
  .next (s.takeFrame port .queueGet body)

/-- FEEDER_GET (R116). -/
def execFeederGet (port : PortId) (body : List Byte) (s : State) : Host.Outcome State Fault Refusal :=
  .next (s.takeFrame port .feederGet body)

/-- SET_BUDGET (R92). -/
def execSetBudget (port : PortId) (body : List Byte) (s : State) : Host.Outcome State Fault Refusal :=
  .next (s.takeFrame port .setBudget body)

/-- REVOKE (R112). -/
def execRevoke (port : PortId) (body : List Byte) (s : State) : Host.Outcome State Fault Refusal :=
  .next (s.takeFrame port .revoke body)

end Sys2Proof.Machine
end

