-- ==== Sys2Proof/Machine/EngineCommands.lean ====
section
/-! DEFINITION. The steps the Tag Translator and the Report Intake take of their own accord (chapters 2 and 3). -/

namespace Sys2Proof.Machine

open Sys2Proof

/-- A pool search completes (R29). -/
def execSearchComplete (s : State) : Host.Outcome State Fault Refusal :=
  .next (s.settle.whenInService State.completeSearch)

/-- The Report Intake takes the head of the Intake FIFO (R43). -/
def execTakeHead (s : State) : Host.Outcome State Fault Refusal :=
  .next (s.settle.whenInService State.takeHead)

/-- The head whose lookup was found is applied or discarded (R44, R54). -/
def execReportApplication (s : State) : Host.Outcome State Fault Refusal :=
  .next (s.settle.whenInService State.applyHead)

end Sys2Proof.Machine
end

