-- ==== Sys2Proof/Machine/LinkCommands.lean ====
section
/-! DEFINITION. What happens on the four lines (chapter 10): unit frames, configuration, status, the frames that name nothing, and the
receiver. -/

namespace Sys2Proof.Machine

open Sys2Proof

/-- UNIT_REPORT (R41). -/
def execUnitReport (port : PortId) (body : List Byte) (s : State) : Host.Outcome State Fault Refusal :=
  .next (s.takeFrame port .unitReport body)

/-- POLL (R168). -/
def execPoll (port : PortId) (body : List Byte) (s : State) : Host.Outcome State Fault Refusal :=
  .next (s.takeFrame port .poll body)

/-- CONFIG_SET (R174). -/
def execConfigSet (port : PortId) (body : List Byte) (s : State) : Host.Outcome State Fault Refusal :=
  .next (s.takeFrame port .configSet body)

/-- CONFIG_GET (R174). -/
def execConfigGet (port : PortId) (body : List Byte) (s : State) : Host.Outcome State Fault Refusal :=
  .next (s.takeFrame port .configGet body)

/-- STATUS_GET (R175). -/
def execStatusGet (port : PortId) (body : List Byte) (s : State) : Host.Outcome State Fault Refusal :=
  .next (s.takeFrame port .statusGet body)

/-- YARD_RESTART (R181): the restart itself follows the reply, as `execRestartAct`. -/
def execYardRestart (port : PortId) (body : List Byte) (s : State) : Host.Outcome State Fault Refusal :=
  .next (s.takeFrame port .yardRestart body)

/-- A well-formed frame whose kind byte names no request (R168). -/
def execUnknownKind (port : PortId) (kind : Byte) (body : List Byte) (s : State) : Host.Outcome State Fault Refusal :=
  .next (State.receiveFrame port kind body s.settle)

/-- A well-formed frame completed while its port is BUSY (R169). On a FREE port it is a frame like any other. -/
def execPortBusy (port : PortId) (kind : Byte) (body : List Byte) (s : State) : Host.Outcome State Fault Refusal :=
  .next (State.receiveFrame port kind body s.settle)

/-- A complete frame whose check does not agree is discarded, and the receiver is HUNTING (R166, R167). -/
def execFrameCheckFail (port : PortId) (s : State) : Host.Outcome State Fault Refusal :=
  .next (State.setReceiver port .hunting s.settle)

/-- More than 5 ms between two bytes: the partial frame is discarded, and the receiver is HUNTING (R166). -/
def execInterbyteTimeout (port : PortId) (s : State) : Host.Outcome State Fault Refusal :=
  .next (State.setReceiver port .hunting s.settle)

/-- A byte 0xA5: a HUNTING receiver becomes ASSEMBLING, and an ASSEMBLING one takes it as data (R166). -/
def execSyncByte (port : PortId) (s : State) : Host.Outcome State Fault Refusal :=
  .next (State.setReceiver port .assembling s.settle)

/-- A length byte: above 120 it sends the receiver back to HUNTING, and otherwise the receiver goes on (R166). -/
def execBodyLengthAbove120 (port : PortId) (length : Byte) (s : State) : Host.Outcome State Fault Refusal :=
  .next (if Config.maxBody < length.toNat then State.setReceiver port .hunting s.settle else s.settle)

/-- The last byte of a reply, or of an owed PORT_BUSY, leaves (R168 to R170). -/
def execReplyComplete (port : PortId) (s : State) : Host.Outcome State Fault Refusal :=
  .next (s.settle.whenInService (State.completeReply port))

end Sys2Proof.Machine
end

