-- ==== Sys2Proof/Machine/NoticeCommands.lean ====
section
/-! DEFINITION. The frames of the Event Link and Notice Unit (chapter 9), and the end of a pulse. -/

namespace Sys2Proof.Machine

open Sys2Proof

/-- LINK_SET (R155). -/
def execLinkSet (port : PortId) (body : List Byte) (s : State) : Host.Outcome State Fault Refusal :=
  .next (s.takeFrame port .linkSet body)

/-- LINK_GET (R154). -/
def execLinkGet (port : PortId) (body : List Byte) (s : State) : Host.Outcome State Fault Refusal :=
  .next (s.takeFrame port .linkGet body)

/-- FETCH_NOTICE (R160). -/
def execFetchNotice (port : PortId) (body : List Byte) (s : State) : Host.Outcome State Fault Refusal :=
  .next (s.takeFrame port .fetchNotice body)

/-- HOLD_NOTICES (R164). -/
def execHoldNotices (port : PortId) (body : List Byte) (s : State) : Host.Outcome State Fault Refusal :=
  .next (s.takeFrame port .holdNotices body)

/-- RELEASE_NOTICES (R164). -/
def execReleaseNotices (port : PortId) (body : List Byte) (s : State) : Host.Outcome State Fault Refusal :=
  .next (s.takeFrame port .releaseNotices body)

/-- The end of a pulse of the attention line, 10 ms after the last cause (R163). -/
def execPulseEnd (master : Master) (s : State) : Host.Outcome State Fault Refusal :=
  .next (s.settle.whenInService (State.endPulse master))

end Sys2Proof.Machine
end

