-- ==== Sys2Proof/Machine/RoundCommands.lean ====
section
/-! DEFINITION. The frames of the Yard Clock, the Round Plans and the Check List (chapter 8). -/

namespace Sys2Proof.Machine

open Sys2Proof

/-- CLOCK_SET (R134). -/
def execClockSet (port : PortId) (body : List Byte) (s : State) : Host.Outcome State Fault Refusal :=
  .next (s.takeFrame port .clockSet body)

/-- CLOCK_TRIM (R134). -/
def execClockTrim (port : PortId) (body : List Byte) (s : State) : Host.Outcome State Fault Refusal :=
  .next (s.takeFrame port .clockTrim body)

/-- CLOCK_GET (R133). -/
def execClockGet (port : PortId) (body : List Byte) (s : State) : Host.Outcome State Fault Refusal :=
  .next (s.takeFrame port .clockGet body)

/-- PLAN_SET (R136). -/
def execPlanSet (port : PortId) (body : List Byte) (s : State) : Host.Outcome State Fault Refusal :=
  .next (s.takeFrame port .planSet body)

/-- PLAN_GET (R136). -/
def execPlanGet (port : PortId) (body : List Byte) (s : State) : Host.Outcome State Fault Refusal :=
  .next (s.takeFrame port .planGet body)

/-- CHECK_ADD (R141). -/
def execCheckAdd (port : PortId) (body : List Byte) (s : State) : Host.Outcome State Fault Refusal :=
  .next (s.takeFrame port .checkAdd body)

/-- CHECK_CLOSE (R146, R147). -/
def execCheckClose (port : PortId) (body : List Byte) (s : State) : Host.Outcome State Fault Refusal :=
  .next (s.takeFrame port .checkClose body)

/-- CHECK_LIST (R151). -/
def execCheckList (port : PortId) (body : List Byte) (s : State) : Host.Outcome State Fault Refusal :=
  .next (s.takeFrame port .checkList body)

/-- NEXT_CHECK (R143). -/
def execNextCheck (port : PortId) (body : List Byte) (s : State) : Host.Outcome State Fault Refusal :=
  .next (s.takeFrame port .nextCheck body)

end Sys2Proof.Machine
end

