-- ==== Sys2Proof/Machine/Restart.lean ====
section
/-! DEFINITION. The Supply Monitor (chapter 11): entry to STANDBY, the three restarts, and the loss of both supplies. -/

namespace Sys2Proof.Machine

open Sys2Proof

/-! ## The restart of a placed record -/

/-- A placed record at a mains return or a yard restart, with the threshold in force taken anew as `threshold` (R179 steps 3
and 4: Table 3-5, Table 4-7, R90, R117, Table 7-3, Table 1-5). The changed flag is set only where DEFROST was removed. -/
def TrailerRecord.restarted (r : TrailerRecord) (threshold : Nat) : TrailerRecord :=
  { r with
    unitState := .awaiting
    reportAge := 0
    lastSequence := none
    doorHistory := none
    doorOpenSince := none
    alarmMark := false
    fuelAge := 0
    threshold := threshold
    chain := dropFrom r.chain .defrost
    run := none
    notBefore := 0
    slot := .empty
    sequence := 0
    seen := false
    changed := r.changed || r.holds .defrost }

/-- A check item at a mains return or a yard restart (Table 8-5). -/
def CheckItem.restarted (it : CheckItem) : CheckItem := { it with state := .pending }

/-! ## The rebuilt queue -/

/-- The entry the rebuild gives a record, its joined-at still to be numbered (R117). -/
def rebuiltEntry (i : RecIdx) (r : TrailerRecord) : Option QueueEntry :=
  if r.threshold ≤ r.level ∧ ¬ r.cancelLatch then
    some { record := i, excess := r.level - r.threshold, manual := false, joinedAt := i.val, passCount := 0 }
  else none

/-- The Defrost Queue rebuilt from the records: highest excess first, then lowest index, numbered from 1 (R117). -/
def State.rebuiltQueue (s : State) : List QueueEntry :=
  renumberFrom 1 ((allRecords.filterMap fun i => (s.record? i).bind (rebuiltEntry i)).foldr insertEntry [])

/-- Step 5 of a restart. -/
def State.rebuildQueue (s : State) : State :=
  { s with queue := s.rebuiltQueue, nextJoin := s.rebuiltQueue.length + 1 }

/-! ## Restarts -/

/-- A cold start (R179 step 2). The commands that wait are no state of the part, and go on waiting. -/
def State.coldStart (strap : Bool) (s : State) : State := { State.cold strap with pending := s.pending }

/-- Steps 1, 3, 4 and 6 of a mains return or a yard restart. -/
def State.clearVolatile (cause : RestartCause) (strap : Bool) (s : State) : State :=
  { s with
    records := Vector.ofFn fun i => (s.record? i).map fun r => r.restarted (s.effectiveThreshold r)
    cache := Vector.replicate 4 CacheSet.cold
    engine := none
    waitList := []
    fifo := []
    intake := .idle
    feeders := Vector.replicate 4 Feeder.cold
    grants := []
    nextGrant := 1
    downlink := []
    checks := s.checks.map CheckItem.restarted
    desks := .all Desk.cold
    ports := Ports.cold
    supply := .inService
    mode := Mode.ofStrap strap
    cause := cause
    restartSeen := .all false
    restartDue := false }

/-- A mains return or a yard restart (R179). -/
def State.warmRestart (cause : RestartCause) (strap : Bool) (s : State) : State :=
  (s.clearVolatile cause strap).rebuildQueue

/-- The restart that follows the DONE to YARD_RESTART (R170, R181); a mains failure taken first has ended it unperformed. -/
def State.yardRestart (strap : Bool) (s : State) : State :=
  if s.supply = .inService ∧ s.restartDue then s.warmRestart .yardRestart strap else s

/-! ## Supplies (Table 11-1) -/

/-- Every attention line released (R165). -/
def State.releaseLines (s : State) : State :=
  { s with desks := ⟨{ s.desks.ofc with line := false }, { s.desks.cab with line := false },
      { s.desks.pat with line := false }⟩ }

/-- MFAIL asserted in service: the entry to STANDBY (R178). -/
def State.failMains (s : State) : State :=
  match s.supply with
  | .inService =>
    { s.releaseLines with
      supply := .standby, ports := Ports.cold, engine := none, waitList := [], fifo := [], intake := .idle,
      restartDue := false }
  | .standby => s
  | .unpowered => s

/-- MFAIL released with VMAIN present: a cold start or a mains return ends STANDBY (R177). -/
def State.returnMains (strap : Bool) (s : State) : State :=
  match s.supply with
  | .standby => if s.coldPending then s.coldStart strap else s.warmRestart .mainsReturn strap
  | .inService => s
  | .unpowered => s

/-- Either supply applied to an unpowered part (R177). -/
def State.applySupply (s : State) : State :=
  match s.supply with
  | .unpowered => { s with supply := .standby, coldPending := true }
  | .standby => s
  | .inService => s

/-- Both supplies absent: the retained state is lost (R177). What an unpowered part holds cannot be observed before the cold
start that must follow, and the model writes the cold values (log 19). -/
def State.loseSupply (s : State) : State :=
  { State.cold false with supply := .unpowered, pending := s.pending }

end Sys2Proof.Machine
end

