-- ==== Sys2Proof/Machine/SupplyCommands.lean ====
section
/-! DEFINITION. The supplies and the restarts (chapter 11). -/

namespace Sys2Proof.Machine

open Sys2Proof

/-- The restart that follows the DONE to YARD_RESTART (R179, R181). -/
def execRestartAct (strap : Bool) (s : State) : Host.Outcome State Fault Refusal :=
  .next (s.settle.yardRestart strap)

/-- Either supply applied to an unpowered part (R177). -/
def execSupplyApplied (s : State) : Host.Outcome State Fault Refusal :=
  .next s.settle.applySupply

/-- MFAIL asserted (R178). -/
def execMfailAsserted (s : State) : Host.Outcome State Fault Refusal :=
  .next s.settle.failMains

/-- MFAIL released with VMAIN present (R177). -/
def execMfailReleased (strap : Bool) (s : State) : Host.Outcome State Fault Refusal :=
  .next (s.settle.returnMains strap)

/-- Both supplies absent (R177). -/
def execSupplyLoss (s : State) : Host.Outcome State Fault Refusal :=
  .next s.settle.loseSupply

end Sys2Proof.Machine
end

