-- ==== Sys2Proof/Machine/TickCommands.lean ====
section
/-! DEFINITION. The second tick and the events it brings about. -/

namespace Sys2Proof.Machine

open Sys2Proof

/-- A second tick: what the tick before brought about is taken first, and then every count goes on. -/
def execSecondTick (s : State) : Host.Outcome State Fault Refusal :=
  .next s.settle.secondTick

/-- The minute rollover a tick has brought about (R135). -/
def execMinuteRollover (s : State) : Host.Outcome State Fault Refusal :=
  .next (s.takeDue .rollover)

/-- A record becomes STALE (R50). -/
def execUnitSilent (record : RecIdx) (s : State) : Host.Outcome State Fault Refusal :=
  .next (s.takeDue (.silent record))

/-- A door has been open for its alarm time (R53). -/
def execDoorOpenLong (record : RecIdx) (s : State) : Host.Outcome State Fault Refusal :=
  .next (s.takeDue (.doorLong record))

/-- A paused defrost ends as ABANDONED (R86, R109). -/
def execAbandoned (record : RecIdx) (s : State) : Host.Outcome State Fault Refusal :=
  .next (s.takeDue (.abandon record))

/-- A running defrost ends as TIMED_OUT (R104, R107). -/
def execTimedOut (record : RecIdx) (s : State) : Host.Outcome State Fault Refusal :=
  .next (s.takeDue (.timeOut record))

/-- A defrost not-before has reached 0 (R105). -/
def execDefrostNotBeforeZero (record : RecIdx) (s : State) : Host.Outcome State Fault Refusal :=
  .next (s.takeDue (.waitOver record))

/-- A command in flight times out (R126). -/
def execCmdUnconfirmed (record : RecIdx) (s : State) : Host.Outcome State Fault Refusal :=
  .next (s.takeDue (.unconfirmed record))

/-- An ISSUED item times out (R148). -/
def execCheckTimeout (record : RecIdx) (kind : CheckKind) (s : State) : Host.Outcome State Fault Refusal :=
  .next (s.takeDue (.checkTimeout record kind))

/-- A suppression window has run its minute (R164). -/
def execSuppressionWindowExpiry (master : Master) (s : State) : Host.Outcome State Fault Refusal :=
  .next (s.takeDue (.windowOver master))

end Sys2Proof.Machine
end

