-- ==== Sys2Proof/Machine/YardCommands.lean ====
section
/-! DEFINITION. The commands of the Yard Map and the Tag Translator that are frames (chapters 1 and 2). -/

namespace Sys2Proof.Machine

open Sys2Proof

/-- ZONE_SET (R2). -/
def execZoneSet (port : PortId) (body : List Byte) (s : State) : Host.Outcome State Fault Refusal :=
  .next (s.takeFrame port .zoneSet body)

/-- ZONE_GET (R1). -/
def execZoneGet (port : PortId) (body : List Byte) (s : State) : Host.Outcome State Fault Refusal :=
  .next (s.takeFrame port .zoneGet body)

/-- BAY_SET (R5). -/
def execBaySet (port : PortId) (body : List Byte) (s : State) : Host.Outcome State Fault Refusal :=
  .next (s.takeFrame port .baySet body)

/-- PLACE (R15). -/
def execPlace (port : PortId) (body : List Byte) (s : State) : Host.Outcome State Fault Refusal :=
  .next (s.takeFrame port .place body)

/-- MOVE (R16). -/
def execMove (port : PortId) (body : List Byte) (s : State) : Host.Outcome State Fault Refusal :=
  .next (s.takeFrame port .move body)

/-- RELEASE (R17). -/
def execRelease (port : PortId) (body : List Byte) (s : State) : Host.Outcome State Fault Refusal :=
  .next (s.takeFrame port .release body)

/-- RECORD_GET (R19). -/
def execRecordGet (port : PortId) (body : List Byte) (s : State) : Host.Outcome State Fault Refusal :=
  .next (s.takeFrame port .recordGet body)

/-- RECORD_EDIT (R20). -/
def execRecordEdit (port : PortId) (body : List Byte) (s : State) : Host.Outcome State Fault Refusal :=
  .next (s.takeFrame port .recordEdit body)

/-- COLLECT (R21). -/
def execCollect (port : PortId) (body : List Byte) (s : State) : Host.Outcome State Fault Refusal :=
  .next (s.takeFrame port .collect body)

/-- SCAN_CHANGED (R23). -/
def execScanChanged (port : PortId) (body : List Byte) (s : State) : Host.Outcome State Fault Refusal :=
  .next (s.takeFrame port .scanChanged body)

/-- SWEEP_SEEN (R22). -/
def execSweepSeen (port : PortId) (body : List Byte) (s : State) : Host.Outcome State Fault Refusal :=
  .next (s.takeFrame port .sweepSeen body)

/-- FLUSH_TAGS (R36). -/
def execFlushTags (port : PortId) (body : List Byte) (s : State) : Host.Outcome State Fault Refusal :=
  .next (s.takeFrame port .flushTags body)

end Sys2Proof.Machine
end

