-- ==== Sys2Proof/Machine/Dispatch.lean ====
section
/-! DEFINITION. One arm per command: each command's meaning is the definition its arm calls. -/

namespace Sys2Proof.Machine

open Sys2Proof

def exec (i : Instr) (s : State) : Host.Outcome State Fault Refusal :=
  match i with
  | .unitReport port body => Sys2Proof.Machine.execUnitReport port body s
  | .poll port body => Sys2Proof.Machine.execPoll port body s
  | .unknownKind port kind body => Sys2Proof.Machine.execUnknownKind port kind body s
  | .frameCheckFail port => Sys2Proof.Machine.execFrameCheckFail port s
  | .interbyteTimeout port => Sys2Proof.Machine.execInterbyteTimeout port s
  | .portBusy port kind body => Sys2Proof.Machine.execPortBusy port kind body s
  | .replyComplete port => Sys2Proof.Machine.execReplyComplete port s
  | .zoneSet port body => Sys2Proof.Machine.execZoneSet port body s
  | .zoneGet port body => Sys2Proof.Machine.execZoneGet port body s
  | .baySet port body => Sys2Proof.Machine.execBaySet port body s
  | .place port body => Sys2Proof.Machine.execPlace port body s
  | .move port body => Sys2Proof.Machine.execMove port body s
  | .release port body => Sys2Proof.Machine.execRelease port body s
  | .recordGet port body => Sys2Proof.Machine.execRecordGet port body s
  | .recordEdit port body => Sys2Proof.Machine.execRecordEdit port body s
  | .collect port body => Sys2Proof.Machine.execCollect port body s
  | .scanChanged port body => Sys2Proof.Machine.execScanChanged port body s
  | .sweepSeen port body => Sys2Proof.Machine.execSweepSeen port body s
  | .flushTags port body => Sys2Proof.Machine.execFlushTags port body s
  | .searchComplete => Sys2Proof.Machine.execSearchComplete s
  | .takeHead => Sys2Proof.Machine.execTakeHead s
  | .reportApplication => Sys2Proof.Machine.execReportApplication s
  | .clockSet port body => Sys2Proof.Machine.execClockSet port body s
  | .clockTrim port body => Sys2Proof.Machine.execClockTrim port body s
  | .clockGet port body => Sys2Proof.Machine.execClockGet port body s
  | .planSet port body => Sys2Proof.Machine.execPlanSet port body s
  | .planGet port body => Sys2Proof.Machine.execPlanGet port body s
  | .linkSet port body => Sys2Proof.Machine.execLinkSet port body s
  | .linkGet port body => Sys2Proof.Machine.execLinkGet port body s
  | .configSet port body => Sys2Proof.Machine.execConfigSet port body s
  | .configGet port body => Sys2Proof.Machine.execConfigGet port body s
  | .defrostRequest port body => Sys2Proof.Machine.execDefrostRequest port body s
  | .defrostCancel port body => Sys2Proof.Machine.execDefrostCancel port body s
  | .holdSet port body => Sys2Proof.Machine.execHoldSet port body s
  | .holdClear port body => Sys2Proof.Machine.execHoldClear port body s
  | .fuelPost port body => Sys2Proof.Machine.execFuelPost port body s
  | .checkAdd port body => Sys2Proof.Machine.execCheckAdd port body s
  | .checkClose port body => Sys2Proof.Machine.execCheckClose port body s
  | .checkList port body => Sys2Proof.Machine.execCheckList port body s
  | .queueGet port body => Sys2Proof.Machine.execQueueGet port body s
  | .feederGet port body => Sys2Proof.Machine.execFeederGet port body s
  | .fetchNotice port body => Sys2Proof.Machine.execFetchNotice port body s
  | .holdNotices port body => Sys2Proof.Machine.execHoldNotices port body s
  | .releaseNotices port body => Sys2Proof.Machine.execReleaseNotices port body s
  | .statusGet port body => Sys2Proof.Machine.execStatusGet port body s
  | .yardRestart port body => Sys2Proof.Machine.execYardRestart port body s
  | .restartAct strap => Sys2Proof.Machine.execRestartAct strap s
  | .setBudget port body => Sys2Proof.Machine.execSetBudget port body s
  | .revoke port body => Sys2Proof.Machine.execRevoke port body s
  | .nextCheck port body => Sys2Proof.Machine.execNextCheck port body s
  | .secondTick => Sys2Proof.Machine.execSecondTick s
  | .minuteRollover => Sys2Proof.Machine.execMinuteRollover s
  | .unitSilent record => Sys2Proof.Machine.execUnitSilent record s
  | .doorOpenLong record => Sys2Proof.Machine.execDoorOpenLong record s
  | .abandoned record => Sys2Proof.Machine.execAbandoned record s
  | .timedOut record => Sys2Proof.Machine.execTimedOut record s
  | .defrostNotBeforeZero record => Sys2Proof.Machine.execDefrostNotBeforeZero record s
  | .cmdUnconfirmed record => Sys2Proof.Machine.execCmdUnconfirmed record s
  | .checkTimeout record kind => Sys2Proof.Machine.execCheckTimeout record kind s
  | .suppressionWindowExpiry master => Sys2Proof.Machine.execSuppressionWindowExpiry master s
  | .pulseEnd master => Sys2Proof.Machine.execPulseEnd master s
  | .supplyApplied => Sys2Proof.Machine.execSupplyApplied s
  | .mfailAsserted => Sys2Proof.Machine.execMfailAsserted s
  | .mfailReleased strap => Sys2Proof.Machine.execMfailReleased strap s
  | .supplyLoss => Sys2Proof.Machine.execSupplyLoss s
  | .syncByte port => Sys2Proof.Machine.execSyncByte port s
  | .bodyLengthAbove120 port length => Sys2Proof.Machine.execBodyLengthAbove120 port length s

end Sys2Proof.Machine
end

