-- ==== Sys2Proof/Machine/Receiver.lean ====
section
/-! DEFINITION. A port's receiver, byte by byte (R166, R167): what each byte on a line makes of the frame being assembled, and the
command of the part it amounts to. The commands of the part stand at this grain: a byte that ends nothing is no command. -/

namespace Sys2Proof.Machine

open Sys2Proof

/-- A receiver with what it has collected: HUNTING, waiting for the length byte (`sizing`), or collecting the `need` bytes still to come
after a length byte, those it has being `got`, newest first. -/
inductive Line where
  | hunting
  | sizing
  | collecting (length : Byte) (got : List Byte) (need : Nat)
  deriving DecidableEq, Repr

/-- The receiver state of R166 that a line is in. -/
def Line.receiver : Line → Receiver
  | .hunting => .hunting
  | .sizing => .assembling
  | .collecting _ _ _ => .assembling

/-- The command a well-formed frame is: that of its kind, or UNKNOWN_KIND (Table 10-6, R168). -/
def frameCommand (p : PortId) (kind : Byte) (body : List Byte) : Instr :=
  match Kind.ofCode kind with
  | none => .unknownKind p kind body
  | some .unitReport => .unitReport p body
  | some .poll => .poll p body
  | some .zoneSet => .zoneSet p body
  | some .zoneGet => .zoneGet p body
  | some .baySet => .baySet p body
  | some .place => .place p body
  | some .move => .move p body
  | some .release => .release p body
  | some .recordGet => .recordGet p body
  | some .recordEdit => .recordEdit p body
  | some .collect => .collect p body
  | some .scanChanged => .scanChanged p body
  | some .sweepSeen => .sweepSeen p body
  | some .flushTags => .flushTags p body
  | some .clockSet => .clockSet p body
  | some .clockTrim => .clockTrim p body
  | some .clockGet => .clockGet p body
  | some .planSet => .planSet p body
  | some .planGet => .planGet p body
  | some .linkSet => .linkSet p body
  | some .linkGet => .linkGet p body
  | some .configSet => .configSet p body
  | some .configGet => .configGet p body
  | some .defrostRequest => .defrostRequest p body
  | some .defrostCancel => .defrostCancel p body
  | some .holdSet => .holdSet p body
  | some .holdClear => .holdClear p body
  | some .fuelPost => .fuelPost p body
  | some .checkAdd => .checkAdd p body
  | some .checkClose => .checkClose p body
  | some .checkList => .checkList p body
  | some .queueGet => .queueGet p body
  | some .feederGet => .feederGet p body
  | some .fetchNotice => .fetchNotice p body
  | some .holdNotices => .holdNotices p body
  | some .releaseNotices => .releaseNotices p body
  | some .statusGet => .statusGet p body
  | some .yardRestart => .yardRestart p body
  | some .setBudget => .setBudget p body
  | some .revoke => .revoke p body
  | some .nextCheck => .nextCheck p body

/-- A complete frame, as the bytes after its length byte (R167): kind, body, and the two bytes of the check. -/
def completeFrame (p : PortId) (length : Byte) (bytes : List Byte) : Option Instr :=
  match bytes with
  | kind :: rest =>
    let body := rest.take length.toNat
    match rest.drop length.toNat with
    | [c1, c0] => some (if crc16 (length :: kind :: body) = (c1 ++ c0 : BitVec 16) then frameCommand p kind body
        else .frameCheckFail p)
    | _ => none
  | [] => none

/-- One byte on a line (R166): the line after it, and the command it completes, if any. A byte taken while ASSEMBLING is data,
a sync value too. -/
def Line.byte (p : PortId) (l : Line) (b : Byte) : Line × Option Instr :=
  match l with
  | .hunting => if b = syncValue then (.sizing, some (.syncByte p)) else (.hunting, none)
  | .sizing =>
    if Config.maxBody < b.toNat then (.hunting, some (.bodyLengthAbove120 p b))
    else (.collecting b [] (b.toNat + 3), none)
  | .collecting length got need =>
    if need ≤ 1 then (.hunting, completeFrame p length (b :: got).reverse)
    else (.collecting length (b :: got) (need - 1), none)

/-- More than 5 ms of silence on a line: an ASSEMBLING receiver discards what it has (R166). -/
def Line.silence (p : PortId) : Line → Line × Option Instr
  | .hunting => (.hunting, none)
  | .sizing => (.hunting, some (.interbyteTimeout p))
  | .collecting _ _ _ => (.hunting, some (.interbyteTimeout p))

/-- Bytes on a line, with no long silence between them: the line after them, and the commands they complete, in order. -/
def Line.bytes (p : PortId) (l : Line) : List Byte → Line × List Instr
  | [] => (l, [])
  | b :: rest =>
    let step := l.byte p b
    let more := Line.bytes p step.1 rest
    (more.1, step.2.toList ++ more.2)

end Sys2Proof.Machine
end

