-- ==== Sys2Proof/WellFormed.lean ====
section
/-! DEFINITION. Which commands a line can bring about: what the receiver of R166 lets through. A body of the wrong length for
its kind is well formed here, because the part answers it RANGE (R168). -/

namespace Sys2Proof

open Sys2Proof.Machine

/-- A body no longer than a frame may carry (R166). -/
def bodyFits (body : List Byte) : Bool := body.length ≤ Config.maxBody

/-- A command that can come about. -/
def Instr.wellFormed (i : Instr) : Bool :=
  match i with
  | .unitReport _ body | .poll _ body | .zoneSet _ body | .zoneGet _ body | .baySet _ body | .place _ body
  | .move _ body | .release _ body | .recordGet _ body | .recordEdit _ body | .collect _ body
  | .scanChanged _ body | .sweepSeen _ body | .flushTags _ body | .clockSet _ body | .clockTrim _ body
  | .clockGet _ body | .planSet _ body | .planGet _ body | .linkSet _ body | .linkGet _ body
  | .configSet _ body | .configGet _ body | .defrostRequest _ body | .defrostCancel _ body | .holdSet _ body
  | .holdClear _ body | .fuelPost _ body | .checkAdd _ body | .checkClose _ body | .checkList _ body
  | .queueGet _ body | .feederGet _ body | .fetchNotice _ body | .holdNotices _ body
  | .releaseNotices _ body | .statusGet _ body | .yardRestart _ body | .setBudget _ body | .revoke _ body
  | .nextCheck _ body => bodyFits body
  | .unknownKind _ kind body => bodyFits body && (Kind.ofCode kind).isNone
  | .portBusy _ _ body => bodyFits body
  | .bodyLengthAbove120 _ length => Config.maxBody < length.toNat
  | .frameCheckFail _ | .interbyteTimeout _ | .replyComplete _ | .syncByte _ => true
  | .searchComplete | .takeHead | .reportApplication => true
  | .restartAct _ | .secondTick | .minuteRollover => true
  | .unitSilent _ | .doorOpenLong _ | .abandoned _ | .timedOut _ | .defrostNotBeforeZero _ | .cmdUnconfirmed _ => true
  | .checkTimeout _ _ | .suppressionWindowExpiry _ | .pulseEnd _ => true
  | .supplyApplied | .mfailAsserted | .mfailReleased _ | .supplyLoss => true

end Sys2Proof
end

