-- ==== Sys2Proof/Safety.lean ====
section
/-! DEFINITION. What holds of the part whatever it has been through: the invariants the manual states of its tables, and the words
the statements use for a port that is ready, and for what a request leaves of the state. -/

namespace Sys2Proof.Machine

open Sys2Proof

/-! ## Invariants -/

/-- The Intake FIFO holds at most 8 reports (R42), each Notice Queue at most 16 notices (R159), and the Check List at most 64
items (R139). -/
def State.withinCapacity (s : State) : Prop :=
  s.fifo.length ≤ Config.intakeDepth ∧ (∀ m, (s.desk m).notices.length ≤ Config.noticeDepth) ∧
    s.checks.length ≤ Config.checkListSize

/-- A chain as R75 has it: COOL first, no kind twice, and DEFROST, where it is present, directly above COOL. -/
def chainOk (chain : List ChainEntry) : Prop :=
  (chain.head?.map ChainEntry.kind) = some .cool ∧ (chain.map ChainEntry.kind).Nodup ∧
    (.defrost ∈ chain.map ChainEntry.kind → (chain.map ChainEntry.kind)[1]? = some .defrost)

/-- Every placed record has a chain as R75 has it, and run data exactly while the chain holds DEFROST (R102). -/
def State.chainsOk (s : State) : Prop :=
  ∀ i r, s.record? i = some r → chainOk r.chain ∧ (r.run.isSome ↔ r.holds .defrost)

/-- The Bay Maps and the pool agree: a placed record stands in the bay that names it, a bay that is occupied names a record that
stands in it, and no tag is held by two placed records (R4, R6). -/
def State.mapOk (s : State) : Prop :=
  (∀ i r, s.record? i = some r → (s.bayAt r.bay).occupant = some i) ∧
    (∀ b i, (s.bayAt b).occupant = some i → ∃ r, s.record? i = some r ∧ r.bay = b) ∧
    ∀ i j r x, s.record? i = some r → s.record? j = some x → r.tag = x.tag → i = j

/-- The Tag Cache agrees with the map (R25): a valid entry stands in the set of its tag and names a placed record that holds the
tag, at the bay where it stands; a set holds at most one entry for a tag; and its recency order lists its valid ways, each
once. -/
def State.cacheOk (s : State) : Prop :=
  (∀ (k w : Fin 4) e, s.cache[k].ways[w] = some e →
    tagSet e.tag = k ∧ ∃ r, s.record? e.record = some r ∧ r.tag = e.tag ∧ r.bay = e.bay) ∧
  (∀ (k v w : Fin 4) a b, s.cache[k].ways[v] = some a → s.cache[k].ways[w] = some b → a.tag = b.tag → v = w) ∧
  ∀ k : Fin 4, s.cache[k].recency.Nodup ∧ ∀ w : Fin 4, w ∈ s.cache[k].recency ↔ s.cache[k].ways[w].isSome

/-- The tag a held request had looked up: PLACE's, or that of the trailer it names by tag (R8, R15). -/
def Request.tagSought (req : Request) : Option Tag :=
  match req, req.name with
  | .place t _ _ _, _ => some t
  | _, some (.tag t) => some t
  | _, some (.bay _) => none
  | _, none => none

/-- The lookups at the engine and in its wait list are those that their callers wait for (R28, R43): one for each caller, each
of a master's for a request its port holds, of the tag that request looks up; and no lookup waits at an IDLE engine. -/
def State.searchesOk (s : State) : Prop :=
  ((s.engine.toList ++ s.waitList).map Search.waiter).Nodup ∧ (s.engine = none → s.waitList = []) ∧
    ∀ q ∈ s.engine.toList ++ s.waitList,
      (q.waiter = .intake → s.intake = .translating) ∧
        ∀ m, q.waiter = .master m → ∃ held, (s.port m.port).activity = .waiting held ∧
          ∀ req, held = .request req → req.tagSought = some q.tag

/-- The sum of the loads of the grants that stand on a feeder (R91). -/
def State.loadOn (s : State) (f : FeederNo) : Nat :=
  ((s.grants.filter fun g => g.feeder = some f).map GrantItem.load).sum

/-- Every grant list item is the run data of its record, every record with run data has its one item, each feeder's granted sum
is the sum of the loads on it and is within its budget, and no budget is above 4000 (R91, R100, R102, R103). -/
def State.feedersOk (s : State) : Prop :=
  (s.grants.map GrantItem.record).Nodup ∧
    (∀ g ∈ s.grants, ∃ r d, s.record? g.record = some r ∧ r.run = some d ∧ d.grant = g.number ∧ d.feeder = g.feeder ∧
      d.load = g.load) ∧
    (∀ i r, s.record? i = some r → r.run.isSome → ∃ g ∈ s.grants, g.record = i) ∧
    ∀ f : FeederNo, s.feeders[f].granted = s.loadOn f ∧ s.feeders[f].granted ≤ s.feeders[f].budget ∧
      s.feeders[f].budget ≤ Config.maxBudget

/-- The Estimator's fields of a record lie in the ranges of R58 and Table 4-4. -/
def TrailerRecord.estimatesOk (r : TrailerRecord) : Prop :=
  r.frost ≤ Config.frostMax ∧ (∀ p, r.fuelRef = some p → p ≤ 100) ∧ r.fuelAge ≤ Config.countTop ∧
    r.burnRate ≤ Config.burnRateTop ∧ (r.runway ≤ 60000 ∨ r.runway = Config.runwayUnknown)

/-- Every placed record's estimates lie in their ranges. -/
def State.estimatesOk (s : State) : Prop := ∀ i r, s.record? i = some r → r.estimatesOk

/-- The Yard Clock's fields lie in the ranges of Table 8-1. -/
def Clock.ok (c : Clock) : Prop := c.time.inRange ∧ 1 ≤ c.weekday ∧ c.weekday ≤ 7

/-- In service, the line of a master in LEVEL mode is asserted exactly while notices wait and no window is open (R162). -/
def State.linesOk (s : State) : Prop :=
  s.supply = .inService → ∀ m, s.settings.attention.get m = .level → (s.desk m).line = (s.desk m).levelLine

/-- Out of service nothing is on a link, in the Intake FIFO or at the engine, and every attention line is released (R178). -/
def State.quietOut (s : State) : Prop :=
  s.supply ≠ .inService → s.ports = Ports.cold ∧ s.fifo = [] ∧ s.intake = .idle ∧ s.engine = none ∧ s.waitList = [] ∧
    s.due = [] ∧ ∀ m, (s.desk m).line = false

/-- Every queue entry names a placed record whose chain holds no DEFROST (R93). -/
def State.queueOk (s : State) : Prop := ∀ e ∈ s.queue, ∃ r, s.record? e.record = some r ∧ ¬ r.holds .defrost

/-- Every request that a port holds has its fields in range, as R9 step 2 left it. -/
def State.heldOk (s : State) : Prop :=
  ∀ p req, (s.port p).activity = .waiting (.request req) → req.inRange

/-! ## Words of the statements -/

/-- A port that takes a frame as a new request: the part is in service, the port is FREE, and nothing is left over from the last
second tick. -/
def State.ready (s : State) (p : PortId) : Prop :=
  s.supply = .inService ∧ (s.port p).activity = .free ∧ s.due = []

/-- The part as a complete frame on a port finds it: the receiver is HUNTING again (R166). -/
def State.received (s : State) (p : PortId) : State := s.setPort p { s.port p with receiver := .hunting }

/-- The part with a port beginning its reply to a master request; while a yard restart is due the reply is not begun, and the port
stays BUSY with it (R176, R181, log 8; NothingIsSentBeforeTheRestart). -/
def State.answered (s : State) (p : PortId) (k : Kind) (r : MasterReply) : State := s.beginReply p k.code (.master r)

/-- A subject resolves at once to a trailer, leaving the part as `s'`: by tag at a hit in the Tag Cache, or by bay address
(R8). -/
def State.resolvesTo (s : State) (m : Master) (n : Subject) (s' : State) (res : Resolved) : Prop :=
  match n with
  | .tag t => s.lookup (.master m) t = (s', .found res)
  | .bay b => s' = s ∧ s.resolveBay b = .ok res

/-- The command that is a consequence of a second tick. -/
def TickEvent.command : TickEvent → Instr
  | .rollover => .minuteRollover
  | .silent i => .unitSilent i
  | .doorLong i => .doorOpenLong i
  | .abandon i => .abandoned i
  | .timeOut i => .timedOut i
  | .waitOver i => .defrostNotBeforeZero i
  | .unconfirmed i => .cmdUnconfirmed i
  | .checkTimeout i k => .checkTimeout i k
  | .windowOver m => .suppressionWindowExpiry m

/-- Whether a command is a consequence of a second tick. -/
def isConsequence : Instr → Bool
  | .minuteRollover | .unitSilent _ | .doorOpenLong _ | .abandoned _ | .timedOut _ | .defrostNotBeforeZero _
  | .cmdUnconfirmed _ | .checkTimeout _ _ | .suppressionWindowExpiry _ => true
  | .unitReport _ _ | .poll _ _ | .unknownKind _ _ _ | .frameCheckFail _ | .interbyteTimeout _ | .portBusy _ _ _
  | .replyComplete _ | .zoneSet _ _ | .zoneGet _ _ | .baySet _ _ | .place _ _ | .move _ _ | .release _ _
  | .recordGet _ _ | .recordEdit _ _ | .collect _ _ | .scanChanged _ _ | .sweepSeen _ _ | .flushTags _ _
  | .searchComplete | .takeHead | .reportApplication | .clockSet _ _ | .clockTrim _ _ | .clockGet _ _
  | .planSet _ _ | .planGet _ _ | .linkSet _ _ | .linkGet _ _ | .configSet _ _ | .configGet _ _
  | .defrostRequest _ _ | .defrostCancel _ _ | .holdSet _ _ | .holdClear _ _ | .fuelPost _ _ | .checkAdd _ _
  | .checkClose _ _ | .checkList _ _ | .queueGet _ _ | .feederGet _ _ | .fetchNotice _ _ | .holdNotices _ _
  | .releaseNotices _ _ | .statusGet _ _ | .yardRestart _ _ | .restartAct _ | .setBudget _ _ | .revoke _ _
  | .nextCheck _ _ | .secondTick | .pulseEnd _ | .supplyApplied | .mfailAsserted | .mfailReleased _ | .supplyLoss
  | .syncByte _ | .bodyLengthAbove120 _ _ => false

/-- Whether a command may be a restart or the loss of the state: the commands that may write the restart cause (R182). -/
def mayRestart : Instr → Bool
  | .restartAct _ | .mfailReleased _ | .supplyLoss => true
  | .unitReport _ _ | .poll _ _ | .unknownKind _ _ _ | .frameCheckFail _ | .interbyteTimeout _ | .portBusy _ _ _
  | .replyComplete _ | .zoneSet _ _ | .zoneGet _ _ | .baySet _ _ | .place _ _ | .move _ _ | .release _ _
  | .recordGet _ _ | .recordEdit _ _ | .collect _ _ | .scanChanged _ _ | .sweepSeen _ _ | .flushTags _ _
  | .searchComplete | .takeHead | .reportApplication | .clockSet _ _ | .clockTrim _ _ | .clockGet _ _
  | .planSet _ _ | .planGet _ _ | .linkSet _ _ | .linkGet _ _ | .configSet _ _ | .configGet _ _
  | .defrostRequest _ _ | .defrostCancel _ _ | .holdSet _ _ | .holdClear _ _ | .fuelPost _ _ | .checkAdd _ _
  | .checkClose _ _ | .checkList _ _ | .queueGet _ _ | .feederGet _ _ | .fetchNotice _ _ | .holdNotices _ _
  | .releaseNotices _ _ | .statusGet _ _ | .yardRestart _ _ | .setBudget _ _ | .revoke _ _
  | .nextCheck _ _ | .secondTick | .pulseEnd _ | .supplyApplied | .mfailAsserted
  | .syncByte _ | .bodyLengthAbove120 _ _ | .minuteRollover | .unitSilent _ | .doorOpenLong _ | .abandoned _
  | .timedOut _ | .defrostNotBeforeZero _ | .cmdUnconfirmed _ | .checkTimeout _ _ | .suppressionWindowExpiry _ => false

end Sys2Proof.Machine
end

