-- ==== Sys2Proof/Certificates/Slice0/Obligations.lean ====
section
/-! DEFINITION. The statements for the provers. -/

open Sys2Proof Sys2Proof.Machine

/-! ## The machine -/

/-- A step takes the command at the front of the queue and runs it on the part with the queue's rest. With no command waiting
the part idles. The model's choice (log 2): time passes only by SECOND_TICK. Every command has an outcome in every state, and it
is a next state: no command stops the part. -/
def Obligations.StepRunsTheQueue : Prop :=
  (∀ (c : Instr) (rest : List Instr) (s : State), s.pending = c :: rest → step s = exec c { s with pending := rest }) ∧
  (∀ s : State, s.pending = [] → step s = .next s) ∧
  (∀ (c : Instr) (s : State), ∃ t : State, exec c s = .next t)

/-- The model's choice (log 2): what the last second tick brought about is taken before any command that is not itself such a
consequence, with no command between two of them, and in the order in which it is listed. Each is taken as the command of its
own row takes it, the others staying due meanwhile; and nothing is then left over. -/
def Obligations.ConsequencesSettleFirst : Prop :=
  (∀ s : State, s.settle.due = []) ∧ (∀ s : State, s.due = [] → s.settle = s) ∧
    (∀ (e : TickEvent) (rest : List TickEvent) (s : State), s.due = e :: rest →
      ∃ t : State, exec e.command s = .next t ∧ t.due = rest ∧ s.settle = t.settle) ∧
    ∀ (c : Instr) (s : State), isConsequence c = false → exec c s = exec c s.settle

/-! ## Bytes and frames -/

/-- A request written as the body of its kind reads back as itself, with every field at every value its rule admits. -/
def Obligations.RequestReadsBack : Prop :=
  ∀ req : Request, req.inRange →
    req.body.length = req.kind.bodyLength ∧ Request.parse req.kind req.body = some req

/-- A frame sent with any kind and a body of at most 120 bytes is assembled by a HUNTING receiver into that frame's command,
after its sync byte, and leaves the receiver HUNTING. That a receiver stands beside the machine, and hands it these commands,
is the model's choice (log 4). A frame whose two check bytes, the high byte first, are not the check of its bytes is discarded
as such, and the receiver is HUNTING again. -/
def Obligations.FrameIsReceived : Prop :=
  (∀ (p : PortId) (kind : Byte) (body : List Byte), body.length ≤ 120 →
    Line.bytes p .hunting (frameBytes kind body) = (.hunting, [.syncByte p, frameCommand p kind body])) ∧
  (∀ (p : PortId) (kind c1 c0 : Byte) (body : List Byte), body.length ≤ 120 →
    crc16 (byteOf body.length :: kind :: body) ≠ (c1 ++ c0 : BitVec 16) →
      Line.bytes p .hunting (syncValue :: byteOf body.length :: kind :: body ++ [c1, c0]) =
        (.hunting, [.syncByte p, .frameCheckFail p]))

/-- The sixteen bytes of a UNIT_REPORT body are read as Table 10-2 lays them out. A port that replies to a master sends a
frame with the kind byte of its request, whose body is the reply code, after NOT_PRESENT or RIGHTS the eight bytes of the
cause record, after DONE or EMPTY the bytes of the reply's fields, and after any other code nothing. An optional field is one
presence byte, 0 absent or 1 present, and then the field; which bytes a number, name, set or stamp then takes is left free
(log 9). A unit report and a poll are answered by the eight bytes of Table 10-3, and an owed PORT_BUSY by code 8. -/
def Obligations.ReportsAndRepliesAreLaidOut : Prop :=
  (∀ (t : Tag) (sequence echo humidity fuel confirmation : Byte) (diesel isOpen hasHumidity hasFuel hasConfirmation : Bool)
      (returnAir coil ambient : BitVec 16) (stamp : YardTime),
      UnitReport.parse stamp
        (tagBytes t ++ [sequence, byteOf (diesel.toNat + 2 * isOpen.toNat + 4 * hasHumidity.toNat + 8 * hasFuel.toNat +
            16 * hasConfirmation.toNat), echo] ++
          signedBytes returnAir.toInt ++ signedBytes coil.toInt ++ signedBytes ambient.toInt ++
          [humidity, fuel, confirmation]) =
        some { tag := t, sequence := sequence, source := if diesel then .diesel else .shore,
               door := if isOpen then .opened else .closed, echoCode := echo, returnAir := returnAir.toInt,
               coil := coil.toInt, ambient := ambient.toInt,
               humidity := if hasHumidity then some humidity.toNat else none,
               fuel := if hasFuel then some fuel.toNat else none,
               confirmation := if hasConfirmation then some confirmation.toNat else none, arrival := stamp }) ∧
  (∀ (p : PortId) (kind : Byte) (s : State),
    (∀ body, (s.port p).activity = .replying ⟨kind, body⟩ → s.sending p = some (frameBytes kind body.bytes)) ∧
    ((s.port p).activity = .answeringBusy kind →
      s.sending p = some (frameBytes kind (if p = .unt then [8, 0, 0, 0, 0, 0, 0, 0] else [8])))) ∧
  (∀ (c : Cause) (f : Payload),
    (MasterReply.notPresent c).bytes = 2 :: c.bytes ∧ (MasterReply.rights c).bytes = 3 :: c.bytes ∧ c.bytes.length = 8 ∧
    (MasterReply.done f).bytes = 0 :: f.fields.flatMap ReplyField.bytes ∧
    (MasterReply.empty f).bytes = 1 :: f.fields.flatMap ReplyField.bytes ∧
    MasterReply.busy.bytes = [4] ∧ MasterReply.range.bytes = [5] ∧ MasterReply.full.bytes = [6] ∧
    MasterReply.wrongPort.bytes = [7] ∧ MasterReply.unknownKind.bytes = [9]) ∧
  (∀ (status : UnitStatus) (c : SentCommand),
    unitReplyBytes status none = [status.code, 0, 0, 0, 0, 0, 0, 0] ∧
    unitReplyBytes status (some c) = [status.code, 1] ++ tagBytes c.tag ++ [c.command.code, byteOf c.sequence.val]) ∧
  (∀ (field : String) (n : Nat) (f : Nat → List ReplyField),
    (optional field (none : Option Nat) f).flatMap ReplyField.bytes = 0 :: Config.replyValue field [] ∧
    (optional field (some n) f).flatMap ReplyField.bytes = 1 :: (f n).flatMap ReplyField.bytes)

/-! ## The Link Front -/

/-- What a sync byte, a length byte above 120, a long silence and a failed check do to a port's receiver in service, and to
nothing else. The last byte of a reply leaves: with nothing owed the port becomes FREE, with a PORT_BUSY owed the port begins
it, and after an owed PORT_BUSY the port becomes FREE. YARD_RESTART is answered DONE and does nothing else, and its restart is
due once the last byte of that reply has left. The replies are stated of a part with no restart due: what one that is due does
to them is NothingIsSentBeforeTheRestart. -/
def Obligations.ReceiversMoveAndRepliesLeave : Prop :=
  (∀ (p : PortId) (n : Byte) (s : State), s.supply = .inService → s.due = [] →
      exec (.syncByte p) s = .next (s.setPort p { s.port p with receiver := .assembling }) ∧
      (120 < n.toNat → exec (.bodyLengthAbove120 p n) s = .next (s.received p)) ∧
      exec (.interbyteTimeout p) s = .next (s.received p) ∧
      exec (.frameCheckFail p) s = .next (s.received p)) ∧
  (∀ (p : PortId) (s : State), s.supply = .inService → s.due = [] → s.restartDue = false →
    (∀ r, (s.port p).activity = .replying r → r.isRestart = false → (s.port p).owed = none →
      exec (.replyComplete p) s = .next (s.setPort p { s.port p with activity := .free })) ∧
    (∀ r k, (s.port p).activity = .replying r → r.isRestart = false → (s.port p).owed = some k →
      exec (.replyComplete p) s = .next (s.setPort p { s.port p with activity := .answeringBusy k, owed := none })) ∧
    (∀ k, (s.port p).activity = .answeringBusy k →
      exec (.replyComplete p) s = .next (s.setPort p { s.port p with activity := .free }))) ∧
  (∀ s : State, s.ready .ofc → s.restartDue = false → (s.port .ofc).owed = none →
    ∃ t : State, exec (.yardRestart .ofc []) s = .next t ∧ t = (s.received .ofc).answered .ofc .yardRestart (.done .nothing) ∧
      exec (.replyComplete .ofc) t = .next { s.received .ofc with restartDue := true })

/-- A frame on a FREE port is refused, and changes nothing but its port, by the first of four tests that applies: its kind byte
names no kind, its kind is not allowed on its port, its body has not the length of its kind, or, of a request, a field of its
body is out of range. A well-formed frame on a port that is not FREE is discarded: the port owes a PORT_BUSY with its kind
byte, unless it owes one already or is sending one, and nothing else changes. -/
def Obligations.FrameTestsDecide : Prop :=
  (∀ (p : PortId) (kind : Byte) (body : List Byte) (s : State), s.ready p →
    (Kind.ofCode kind = none →
      exec (.unknownKind p kind body) s = .next ((s.received p).refuse p kind .unknownKind .unknownKind)) ∧
    (∀ k, Kind.ofCode kind = some k → k.allowedOn p = false →
      exec (frameCommand p kind body) s = .next ((s.received p).refuse p kind .wrongPort .wrongPort)) ∧
    (∀ k, Kind.ofCode kind = some k → k.allowedOn p = true → body.length ≠ k.bodyLength →
      exec (frameCommand p kind body) s = .next ((s.received p).refuse p kind .range .range)) ∧
    (∀ k, Kind.ofCode kind = some k → k.allowedOn p = true → p ≠ .unt → body.length = k.bodyLength →
      Request.parse k body = none →
      exec (frameCommand p kind body) s =
        .next ((s.received p).setPort p (if s.restartDue then { s.port p with receiver := .hunting, activity := .awaitingRestart }
          else { s.port p with receiver := .hunting, activity := .replying ⟨kind, .master .range⟩ })))) ∧
  (∀ (p : PortId) (kind : Byte) (body : List Byte) (s : State),
    s.supply = .inService → s.due = [] → (s.port p).activity ≠ .free →
      exec (.portBusy p kind body) s =
        .next ((s.received p).setPort p
          { s.port p with
            receiver := .hunting
            owed := match (s.port p).activity, (s.port p).owed with
              | .answeringBusy _, o => o
              | _, some k => some k
              | _, none => some kind }))

/-- Once the DONE to YARD_RESTART has left, it is the last frame the part sends until its restart acts: no port begins a reply
or a PORT_BUSY, and no other frame's last byte leaves. A request taken meanwhile is answered by nothing, its port staying
BUSY; with no restart due the same request begins its reply. What becomes of a frame that was already being sent is DEDUCED
(log 8). -/
def Obligations.NothingIsSentBeforeTheRestart : Prop :=
  (∀ (c : Instr) (p : PortId) (s t : State), s.restartDue = true → s.supply = .inService → exec c s = .next t →
    t.restartDue = true → t.sending p = s.sending p) ∧
  (∀ (p : PortId) (s : State), s.supply = .inService → s.due = [] → s.restartDue = true →
    exec (.replyComplete p) s = .next s) ∧
  (∀ (p : PortId) (k : Kind) (r : MasterReply) (s : State),
    (s.restartDue = true → s.answered p k r = s.setPort p { s.port p with activity := .awaitingRestart }) ∧
    (s.restartDue = false →
      s.answered p k r = s.setPort p { s.port p with activity := .replying { kind := k.code, body := .master r } }))

/-- Every master request whose fields are in range, on a FREE port that its kind is allowed on, is taken: the reply of its
owning block begins, or the port holds the request while its lookup waits. -/
def Obligations.RequestIsTaken : Prop :=
  ∀ (m : Master) (req : Request) (s : State), s.ready m.port → req.inRange → req.kind.allowedOn m.port →
    exec (frameCommand m.port req.kind.code req.body) s =
      .next (State.answer m req.kind.code ((s.received m.port).takeRequest m req))

/-- A poll on UNT is answered at once. In COMMISSION mode, and with an empty Downlink Queue, the reply carries no command;
otherwise the head record is sent: it leaves the queue, its sequence rises by one, and its queued command is in flight. A unit
report on UNT joins the tail of the Intake FIFO with the yard time as its arrival stamp while the FIFO holds fewer than 8, and
is answered REPORT_TAKEN; at a full FIFO it is not kept, INTAKE_OVERRUN is raised with its tag and sequence, and it is answered
REPORT_REFUSED. Either reply asks the Unit Command Queue for a command. -/
def Obligations.UnitFramesAreAnswered : Prop :=
  (∀ s : State, s.ready .unt →
    (s.mode = .commission ∨ s.downlink = [] →
      exec (.poll .unt []) s = .next ((s.received .unt).beginReply .unt Kind.poll.code (.unit .pollReply none))) ∧
    (∀ i rest r c, s.mode = .yard → s.downlink = i :: rest → s.record? i = some r → r.slot = .queued c →
      exec (.poll .unt []) s =
        .next (({ s.received .unt with downlink := rest }.setRecord i
            (some { r with sequence := r.sequence + 1, changed := true
                           slot := .sent { command := c, sequence := r.sequence + 1, sentAt := s.clock.time,
                                           seconds := 0 } })).beginReply .unt Kind.poll.code
          (.unit .pollReply (some { tag := r.tag, command := c, sequence := r.sequence + 1 }))))) ∧
  (∀ (body : List Byte) (u : UnitReport) (s : State), s.ready .unt → UnitReport.parse s.clock.time body = some u →
    (s.fifo.length < 8 →
      exec (.unitReport .unt body) s =
        .next ({ s.received .unt with fifo := s.fifo ++ [{ u with arrival := s.clock.time }] }.replyUnit
          Kind.unitReport.code .reportTaken)) ∧
    (8 ≤ s.fifo.length →
      exec (.unitReport .unt body) s =
        .next (((s.received .unt).raise ⟨.absent, .intakeOverrun u.tag u.sequence⟩).replyUnit
          Kind.unitReport.code .reportRefused)))

/-- STATUS_GET gives the fields of Table 10-8 as they stand, with the asker's restart-seen flag as it was found, and then sets
that flag to seen, leaving the other two. CONFIG_SET writes one setting and answers DONE; a change of an attention mode acts
on the line at once, asserted in LEVEL mode exactly while notices wait and no window is open, and released in PULSE mode.
CONFIG_GET gives all settings. PLAN_SET and LINK_SET write their whole entry, leave every other, and answer DONE. -/
def Obligations.StatusAndSettingsAreReadAndWritten : Prop :=
  (∀ (m : Master) (s : State), s.ready m.port →
      exec (.statusGet m.port []) s =
        .next ({ s.received m.port with restartSeen := s.restartSeen.set m true }.answered m.port .statusGet
          (.done (.status
            { mode := s.mode, cause := s.cause, restartSeen := s.restartSeen.get m, clockValid := s.clock.valid,
              placed := (allRecords.filter fun i => (s.record? i).isSome).length, queueLength := s.queue.length,
              checkItems := s.checks.length, intakeFill := s.fifo.length, notices := (s.desk m).notices.length,
              lost := (s.desk m).lost })))) ∧
  (∀ (m : Master) (mode : AttentionMode) (on : Bool) (n : Nat) (s : State), s.ready .ofc →
    exec (.configSet .ofc (Request.configSet (.strict on)).body) s =
      .next ({ s.received .ofc with settings := { s.settings with strict := on } }.answered .ofc .configSet
        (.done .nothing)) ∧
    (n ≤ 100 → exec (.configSet .ofc (Request.configSet (.humidityFallback n)).body) s =
      .next ({ s.received .ofc with settings := { s.settings with humidityFallback := n } }.answered .ofc .configSet
        (.done .nothing))) ∧
    (n ≤ 255 → exec (.configSet .ofc (Request.configSet (.doorWeight n)).body) s =
      .next ({ s.received .ofc with settings := { s.settings with doorWeight := n } }.answered .ofc .configSet
        (.done .nothing))) ∧
    (5 ≤ n → n ≤ 120 → exec (.configSet .ofc (Request.configSet (.checkTimeout n)).body) s =
      .next ({ s.received .ofc with settings := { s.settings with checkTimeout := n } }.answered .ofc .configSet
        (.done .nothing))) ∧
    (s.settings.attention.get m ≠ mode →
      exec (.configSet .ofc (Request.configSet (.attention m mode)).body) s =
        .next ({ (s.received .ofc).setDesk m
              { s.desk m with line := decide (mode = AttentionMode.level ∧ (s.desk m).notices ≠ [] ∧ (s.desk m).window = none) } with
            settings := { s.settings with attention := s.settings.attention.set m mode } }.answered .ofc .configSet
          (.done .nothing))) ∧
    exec (.configGet .ofc []) s =
      .next ((s.received .ofc).answered .ofc .configGet (.done (.settings s.settings)))) ∧
  (∀ (p : Fin 8) (plan : Plan) (k : EventKind) (e : LinkEntry) (s : State), s.ready .ofc →
    (plan.rule.inRange →
      exec (.planSet .ofc (Request.planSet p plan).body) s =
        .next ({ s.received .ofc with plans := s.plans.set p plan }.answered .ofc .planSet (.done .nothing))) ∧
    exec (.linkSet .ofc (Request.linkSet k e).body) s =
      .next ({ s.received .ofc with links := s.links.set k.index e }.answered .ofc .linkSet (.done .nothing)))

/-! ## The Yard Map and the Tag Translator -/

/-- ZONE_SET in range writes every field of its zone's entry and answers DONE, unless it would close a zone with an occupied
bay, or change the feeder of a zone in which a record holds a SHORE grant: then it answers BUSY and leaves the entry. BAY_SET
writes the rights and the lock of its bay, in any state of its zone and of the bay, leaves its occupant, and answers DONE. -/
def Obligations.MapEntriesAreWritten : Prop :=
  (∀ (z : Fin 8) (e : Zone) (s : State) (busy : Prop), s.ready .ofc → e.inRange →
    (busy ↔ (s.zones[z].isOpen ∧ ¬ e.isOpen ∧ ∃ b : BayAddr, b.zone = z ∧ (s.bayAt b).occupant ≠ none) ∨
      (e.feeder ≠ s.zones[z].feeder ∧
        ∃ i r d, s.record? i = some r ∧ r.bay.zone = z ∧ r.run = some d ∧ d.feeder ≠ none)) →
    (busy → exec (.zoneSet .ofc (Request.zoneSet z e).body) s =
      .next ((s.received .ofc).answered .ofc .zoneSet .busy)) ∧
    (¬ busy → exec (.zoneSet .ofc (Request.zoneSet z e).body) s =
      .next ({ s.received .ofc with zones := s.zones.set z e }.answered .ofc .zoneSet (.done .nothing)))) ∧
  (∀ (b : BayAddr) (rights : Rights) (locked : Bool) (s : State), s.ready .ofc →
    exec (.baySet .ofc (Request.baySet b rights locked).body) s =
      .next (((s.received .ofc).setBay b { occupant := (s.bayAt b).occupant, rights := rights, locked := locked }).answered
        .ofc .baySet (.done .nothing)))

/-- The readouts of OFC that name an entry give it as it stands, answer DONE, and change nothing but their port. QUEUE_GET,
FEEDER_GET and CHECK_LIST give a page of their list from the position asked for, in its order, then the position past the page
or end, and change nothing but their port. SCAN_CHANGED lists the tags of the first 24 records, in rising index from the one
asked for, that are placed with the changed flag set, and then the index past the last of them where more follow, or end; it
clears no flag. -/
def Obligations.ReadoutsGiveWhatStands : Prop :=
  (∀ (z : Fin 8) (p : Fin 8) (k : EventKind) (s : State), s.ready .ofc →
    exec (.zoneGet .ofc (Request.zoneGet z).body) s =
      .next ((s.received .ofc).answered .ofc .zoneGet (.done (.zone s.zones[z]))) ∧
    exec (.planGet .ofc (Request.planGet p).body) s =
      .next ((s.received .ofc).answered .ofc .planGet (.done (.plan s.plans[p]))) ∧
    exec (.linkGet .ofc (Request.linkGet k).body) s =
      .next ((s.received .ofc).answered .ofc .linkGet (.done (.link s.links[k.index]))) ∧
    exec (.clockGet .ofc []) s = .next ((s.received .ofc).answered .ofc .clockGet (.done (.clock s.clock)))) ∧
  (∀ (m : Master) (choice : FeederChoice) (start : Nat) (s : State), s.ready m.port →
    (m ≠ .pat → start ≤ 47 →
      exec (.queueGet m.port (Request.queueGet start).body) s =
        .next ((s.received m.port).answered m.port .queueGet
          (.done (.queue (((s.queue.drop start).take 8).filterMap s.queueView)
            (if start + 8 < s.queue.length then some (start + 8) else none))))) ∧
    (m ≠ .pat → start ≤ 47 →
      exec (.feederGet m.port (Request.feederGet choice start).body) s =
        .next ((s.received m.port).answered m.port .feederGet
          (.done (.feeder (choice.map fun f => s.feeders[f])
            ((((s.grants.filter fun g => g.feeder = choice).drop start).take 8).filterMap s.grantView)
            (if start + 8 < (s.grants.filter fun g => g.feeder = choice).length then some (start + 8) else none))))) ∧
    (m = .ofc → start ≤ 63 →
      exec (.checkList m.port (Request.checkList start).body) s =
        .next ((s.received m.port).answered m.port .checkList
          (.done (.checks (((((issueOrder s.checks).drop start).take 4)).filterMap s.checkView)
            (if start + 4 < s.checks.length then some (start + 4) else none)))))) ∧
  (∀ (start : RecIdx) (s : State) (found : List (RecIdx × Tag)), s.ready .ofc →
    found = allRecords.filterMap (fun i => (s.record? i).bind fun r =>
      if start ≤ i ∧ r.changed then some (i, r.tag) else none) →
    exec (.scanChanged .ofc (Request.scanChanged start).body) s =
      .next ((s.received .ofc).answered .ofc .scanChanged
        (.done (.scan ((found.take 24).map Prod.snd)
          (if 24 < found.length then (found.take 24).getLast?.map fun x => x.1.val + 1 else none)))))

/-- A subject given by bay address resolves on the WALKED path, from the map as it stands: an open zone and an occupied bay give
the record, the bay and the effective rights, each right present exactly where zone and bay both hold it; a closed zone and an
empty bay are not present, at their level. A lookup of a tag that misses joins the engine: it is searched for at once where the
engine is IDLE, and otherwise waits at the tail. A hit is answered from the entry on the CACHED path and becomes the most recent
of its set. A fill makes its entry the most recent of its set, is what the next lookup of its tag finds, and changes no other
set; it takes the way of its tag's own entry, and otherwise the lowest invalid way, and in a full set the least recent, and every
other way of the set stands; an invalidation leaves no entry of its tag and changes no other set. -/
def Obligations.SubjectsResolve : Prop :=
  (∀ (b : BayAddr) (s : State),
    (s.zones[b.zone].isOpen = false → s.resolveBay b = .error .zone) ∧
    (s.zones[b.zone].isOpen = true → (s.bayAt b).occupant = none → s.resolveBay b = .error .bay) ∧
    (∀ i, s.zones[b.zone].isOpen = true → (s.bayAt b).occupant = some i →
      ∃ res, s.resolveBay b = .ok res ∧ res.record = i ∧ res.bay = b ∧ res.path = .walked ∧
        ∀ right, res.rights.has right = (s.zones[b.zone].rights.has right && (s.bayAt b).rights.has right))) ∧
  (∀ (w : Waiter) (t : Tag) (s : State), t ≠ 0 →
    (s.cacheHit t = none → s.engine = none →
      s.lookup w t = ({ s with engine := some ⟨w, t⟩ }, .waiting)) ∧
    (∀ q, s.cacheHit t = none → s.engine = some q →
      s.lookup w t = ({ s with waitList := s.waitList ++ [⟨w, t⟩] }, .waiting)) ∧
    (∀ way e, s.cacheHit t = some (way, e) →
      ∃ u : State, s.lookup w t = (u, .found { record := e.record, bay := e.bay, rights := e.rights, path := .cached }) ∧
        u = { s with cache := u.cache } ∧ u.cacheHit t = some (way, e) ∧
        u.cache[tagSet t].recency.head? = some way)) ∧
  (∀ (e : CacheEntry) (t : Tag) (s : State),
    ((s.fillCache e).cacheHit e.tag).map Prod.snd = some e ∧
    (s.fillCache e).cache[tagSet e.tag].recency.head? = ((s.fillCache e).cacheHit e.tag).map Prod.fst ∧
    (∀ k, k ≠ tagSet e.tag → (s.fillCache e).cache[k] = s.cache[k]) ∧
    (∀ c : CacheSet, c = s.cache[tagSet e.tag] →
      ∃ w : Fin 4, (s.fillCache e).cache[tagSet e.tag] =
          { ways := c.ways.set w (some e), recency := w :: c.recency.filter fun v => v ≠ w } ∧
        (∀ (v : Fin 4) x, c.ways[v] = some x → x.tag = e.tag → ∃ y, c.ways[w] = some y ∧ y.tag = e.tag) ∧
        ((∀ (v : Fin 4) x, c.ways[v] = some x → x.tag ≠ e.tag) →
          (∀ v : Fin 4, c.ways[v] = none → c.ways[w] = none ∧ w ≤ v) ∧
          (∀ v : Fin 4, (∀ a : Fin 4, c.ways[a] ≠ none) → c.recency.getLast? = some v → w = v))) ∧
    (∀ k, k ≠ tagSet t → (s.invalidateTag t).cache[k] = s.cache[k]) ∧
    ((∀ k a b x y, s.cache[(k : Fin 4)].ways[(a : Fin 4)] = some x → s.cache[k].ways[(b : Fin 4)] = some y →
        x.tag = y.tag → a = b) → (s.invalidateTag t).cacheHit t = none))

/-- RECORD_GET gives OFC the full view and PAT the patrol view of its trailer and changes no record; COLLECT gives the full
view as it stands and clears the changed flag of that record alone. DEDUCED (log 6): the view shows the flag as it was before
the clearing. RECORD_EDIT writes the heater load and the threshold override of its trailer, and sets the changed flag exactly
where one of them takes a new value or presence; while the chain holds DEFROST it answers BUSY and writes nothing. With STRICT
on and the bay locked it is refused RIGHTS. -/
def Obligations.RecordIsReadOutAndEdited : Prop :=
  (∀ (n : Subject) (s s' : State) (res : Resolved) (r : TrailerRecord), n.inRange → s'.record? res.record = some r →
    (s.ready .ofc → (s.received .ofc).resolvesTo .ofc n s' res →
      exec (.recordGet .ofc (Request.recordGet n).body) s =
        .next (s'.answered .ofc .recordGet (.done (.full (s'.fullView r))))) ∧
    (s.ready .pat → (s.received .pat).resolvesTo .pat n s' res →
      exec (.recordGet .pat (Request.recordGet n).body) s =
        .next (s'.answered .pat .recordGet (.done (.patrol (s'.patrolView r))))) ∧
    (s.ready .ofc → (s.received .ofc).resolvesTo .ofc n s' res →
      exec (.collect .ofc (Request.collect n).body) s =
        .next ((s'.setRecord res.record (some { r with changed := false })).answered .ofc .collect
          (.done (.full (s'.fullView r)))))) ∧
  (∀ (n : Subject) (load override : Option Nat) (s s' : State) (res : Resolved) (r : TrailerRecord), s.ready .ofc →
    (Request.recordEdit n load override).inRange → (s.received .ofc).resolvesTo .ofc n s' res →
    s'.record? res.record = some r →
    exec (.recordEdit .ofc (Request.recordEdit n load override).body) s =
      if s'.settings.strict ∧ (s'.bayAt res.bay).locked then
        .next (s'.answered .ofc .recordEdit (.rights { level := .bay, access := .act, path := res.path, name := n }))
      else if r.holds .defrost then .next (s'.answered .ofc .recordEdit .busy)
      else
        .next ((s'.setRecord res.record
            (some { r with heaterLoad := load, thresholdOverride := override,
                           changed := r.changed || (r.heaterLoad ≠ load || r.thresholdOverride ≠ override) })).answered
          .ofc .recordEdit (.done .nothing)))

/-- PLACE of a tag that is neither cached nor placed, in an empty bay of an open zone, with a record free and the engine IDLE:
the port waits for the search, and when the search completes the lowest-indexed free record is placed with the values of Table
1-2, its bay is occupied by it, and the reply is DONE with its index. -/
def Obligations.PlacePlaces : Prop :=
  ∀ (t : Tag) (b : BayAddr) (source : Option Source) (load : Option Nat) (i : RecIdx) (s : State), s.ready .ofc →
    (Request.place t b source load).inRange → s.zones[b.zone].isOpen → (s.bayAt b).occupant = none → s.engine = none →
    s.cacheHit t = none → s.findTag t = none → s.waitList = [] → s.firstFree = some i →
    ∃ t1 t2 : State, exec (.place .ofc (Request.place t b source load).body) s = .next t1 ∧
      t1 = { s.received .ofc with engine := some ⟨.master .ofc, t⟩ }.setActivity .ofc
        (.waiting (.request (.place t b source load))) ∧
      exec .searchComplete t1 = .next t2 ∧
      t2 = { (((s.received .ofc).setRecord i
            (some (TrailerRecord.placed t b source load s.zones[b.zone].frostThreshold))).setBay b
            { s.bayAt b with occupant := some i }) with engine := none }.answered .ofc .place (.done (.placed i)) ∧
      ∀ j, j < i → s.record? j ≠ none

/-- MOVE of a trailer whose tag hits the cache, to an empty bay of an open zone, its grant (if SHORE) on the new zone's feeder
and no lock in force: the old bay empties, the new one takes the record, the record takes the new address and its changed flag,
every other field stands, and the tag's cache entry goes. With STRICT on and the lock of either bay set it is refused RIGHTS, and
does nothing. -/
def Obligations.MoveMoves : Prop :=
  ∀ (t : Tag) (b : BayAddr) (s s' : State) (res : Resolved) (r : TrailerRecord), s.ready .ofc →
    (s.received .ofc).resolvesTo .ofc (.tag t) s' res → s'.record? res.record = some r →
    (r.bay ≠ b → (s.settings.strict = false ∨ ((s.bayAt res.bay).locked = false ∧ (s.bayAt b).locked = false)) →
      s.zones[b.zone].isOpen → (s.bayAt b).occupant = none →
      (∀ d f, r.run = some d → d.feeder = some f → f = s.zones[b.zone].feeder) →
      exec (.move .ofc (Request.move t b).body) s =
        .next (State.answered
          (((((s'.setBay r.bay { s.bayAt r.bay with occupant := none }).setBay b
            { s.bayAt b with occupant := some res.record }).setRecord res.record
              (some { r with bay := b, changed := true })).invalidateTag t)) .ofc .move (.done .nothing))) ∧
    (s.settings.strict = true → ((s.bayAt res.bay).locked = true ∨ (s.bayAt b).locked = true) →
      exec (.move .ofc (Request.move t b).body) s =
        .next (s'.answered .ofc .move (.rights { level := .bay, access := .act, path := res.path, name := .tag t })))

/-- RELEASE of a trailer whose tag hits the cache, with no lock in force, frees its record and empties its bay, keeping the
bay's rights and lock, leaves no check item of its tag, and invalidates the tag's cache entry and no other. A trailer with no
defrost running or paused leaves no queue entry, the joined-at counter going back to 1 where the queue is then empty; no event is
raised, no other record changes, and nothing else of the part does. A trailer with a defrost first has it ended as RELEASED, with
the grant pass that follows, and is then released from what that has left. With STRICT on and the lock of its bay set it is
refused RIGHTS, and does nothing. -/
def Obligations.ReleaseFrees : Prop :=
  ∀ (t : Tag) (s s' : State) (res : Resolved) (r : TrailerRecord), s.ready .ofc →
    (s.received .ofc).resolvesTo .ofc (.tag t) s' res → s'.record? res.record = some r →
    (s.settings.strict = false ∨ (s.bayAt res.bay).locked = false → r.run = none →
      ∃ u : State, exec (.release .ofc (Request.release t).body) s = .next (u.answered .ofc .release (.done .nothing)) ∧
      u.records = s.records.set res.record none ∧ u.bayAt r.bay = { s.bayAt r.bay with occupant := none } ∧
      u.checks = s.checks.filter (fun it => it.tag ≠ t) ∧ u.downlink = s.downlink.filter (fun j => j ≠ res.record) ∧
      u.queue = s.queue.filter (fun e => e.record ≠ res.record) ∧ u.desks = s.desks ∧ u.grants = s.grants ∧
      (∀ b, b ≠ r.bay → u.bayAt b = s.bayAt b) ∧ u.cache[tagSet t] = s'.cache[tagSet t].invalidate t ∧
      (∀ k, k ≠ tagSet t → u.cache[k] = s'.cache[k]) ∧ u.nextJoin = (if u.queue = [] then 1 else s.nextJoin) ∧
      u = { s' with records := u.records, bays := u.bays, checks := u.checks, downlink := u.downlink, queue := u.queue,
                    nextJoin := u.nextJoin, cache := u.cache }) ∧
    (∀ (d : RunData) (e : State), s.settings.strict = false ∨ (s.bayAt res.bay).locked = false → r.run = some d →
      e = (s'.endDefrost res.record .released).grantPass →
      ∃ u : State, exec (.release .ofc (Request.release t).body) s = .next (u.answered .ofc .release (.done .nothing)) ∧
        u.records = e.records.set res.record none ∧ u.bayAt r.bay = { e.bayAt r.bay with occupant := none } ∧
        u.checks = e.checks.filter (fun it => it.tag ≠ t) ∧ u.downlink = e.downlink.filter (fun j => j ≠ res.record) ∧
        (∀ b, b ≠ r.bay → u.bayAt b = e.bayAt b) ∧ u.cache[tagSet t] = e.cache[tagSet t].invalidate t ∧
        (∀ k, k ≠ tagSet t → u.cache[k] = e.cache[k]) ∧
        u = { e with records := u.records, bays := u.bays, checks := u.checks, downlink := u.downlink, cache := u.cache }) ∧
    (s.settings.strict = true → (s.bayAt res.bay).locked = true →
      exec (.release .ofc (Request.release t).body) s =
        .next (s'.answered .ofc .release (.rights { level := .bay, access := .act, path := res.path, name := .tag t })))

/-- SWEEP_SEEN clears the seen flag of every placed record, touches no other field, and answers DONE. FLUSH_TAGS makes every way
of the Tag Cache invalid, so that every later lookup of a tag misses, leaves the search in flight and its waiters, and answers
DONE. -/
def Obligations.SweepAndFlushClear : Prop :=
  (∀ s : State, s.ready .ofc →
    ∃ u : State, exec (.sweepSeen .ofc []) s = .next (u.answered .ofc .sweepSeen (.done .nothing)) ∧
      u = { s.received .ofc with records := u.records } ∧
      ∀ i, u.record? i = (s.record? i).map fun r => { r with seen := false }) ∧
  (∀ s : State, s.ready .ofc →
    ∃ u : State, exec (.flushTags .ofc []) s = .next (u.answered .ofc .flushTags (.done .nothing)) ∧
      u = { s.received .ofc with cache := u.cache } ∧ (∀ k : Fin 4, u.cache[k].recency = []) ∧ ∀ t, u.cacheHit t = none)

/-- A pool search that completes decides from the map as it then stands: where a placed record holds the tag, the cache is
filled with the record, its bay and the rights now combined, and the caller goes on with the same on the WALKED path; otherwise
the caller is answered not found. Either way the engine takes the oldest waiter. The callers are a master's request, a
NEXT_CHECK and the head of the Intake FIFO. -/
def Obligations.SearchCompletes : Prop :=
  ∀ (m : Master) (t : Tag) (s : State), s.supply = .inService → s.due = [] →
    (∀ req, s.engine = some ⟨.master m, t⟩ → (s.port m.port).activity = .waiting (.request req) →
      (s.findTag t = none →
        exec .searchComplete s = .next (State.nextSearch (State.answer m req.kind.code (s.goOn m req .notFound)))) ∧
      (∀ i r, s.findTag t = some i → s.record? i = some r →
        exec .searchComplete s =
          .next (State.nextSearch (State.answer m req.kind.code
            ((s.fillCache ⟨t, i, r.bay, s.rightsAt r.bay⟩).goOn m req
              (.found ⟨i, r.bay, s.rightsAt r.bay, .walked⟩)))))) ∧
    (∀ considered item, s.engine = some ⟨.master m, t⟩ →
      (s.port m.port).activity = .waiting (.nextCheck considered item) →
      (s.findTag t = none →
        exec .searchComplete s =
          .next (State.nextSearch (State.answer m Kind.nextCheck.code
            (s.resumeNextCheck m considered item .notFound)))) ∧
      (∀ i r, s.findTag t = some i → s.record? i = some r →
        exec .searchComplete s =
          .next (State.nextSearch (State.answer m Kind.nextCheck.code
            ((s.fillCache ⟨t, i, r.bay, s.rightsAt r.bay⟩).resumeNextCheck m considered item
              (.found ⟨i, r.bay, s.rightsAt r.bay, .walked⟩)))))) ∧
    (∀ u rest, s.engine = some ⟨.intake, t⟩ → s.fifo = u :: rest →
      (s.findTag t = none →
        exec .searchComplete s =
          .next (State.nextSearch { s.raise ⟨.tagAlone u.tag, .unknownUnit u.sequence⟩ with
            fifo := rest, intake := .idle })) ∧
      (∀ i r, s.findTag t = some i → s.record? i = some r →
        exec .searchComplete s =
          .next (State.nextSearch { s.fillCache ⟨t, i, r.bay, s.rightsAt r.bay⟩ with intake := .translated i })))

/-! ## The Report Intake and the Estimator -/

/-- The Report Intake takes the head of a non-empty FIFO when IDLE: a head whose mode echo names nothing leaves with no event
and no lookup; a head with the zero tag leaves with UNKNOWN_UNIT; a head whose tag hits is translated; a head whose tag misses
is searched for where the engine is IDLE, and otherwise waits at the tail. The head is discarded with UNKNOWN_UNIT where its
record is free or holds another tag, silently where its sequence is the last accepted one, and is otherwise applied; in each
case it leaves the FIFO and the Report Intake becomes IDLE. That a report is also applied where its tag was released and placed
again in the same record since its lookup is the model's choice (log 23). -/
def Obligations.HeadIsTakenAndApplied : Prop :=
  (∀ (u : UnitReport) (rest : List UnitReport) (s : State), s.supply = .inService → s.due = [] → s.intake = .idle →
    s.fifo = u :: rest →
    ((∀ n, 1 ≤ n → n ≤ 5 → u.echoCode.toNat ≠ n) → exec .takeHead s = .next { s with fifo := rest }) ∧
    (1 ≤ u.echoCode.toNat → u.echoCode.toNat ≤ 5 → u.tag ≠ 0 →
      (∀ way e, s.cacheHit u.tag = some (way, e) →
        ∃ t : Vector CacheSet 4, exec .takeHead s = .next { s with cache := t, intake := .translated e.record }) ∧
      (s.cacheHit u.tag = none → s.engine = none →
        exec .takeHead s = .next { s with engine := some ⟨.intake, u.tag⟩, intake := .translating }) ∧
      (∀ q, s.cacheHit u.tag = none → s.engine = some q →
        exec .takeHead s = .next { s with waitList := s.waitList ++ [⟨.intake, u.tag⟩], intake := .translating })) ∧
    (1 ≤ u.echoCode.toNat → u.echoCode.toNat ≤ 5 → u.tag = 0 →
      exec .takeHead s =
        .next { s.raise ⟨.tagAlone 0, .unknownUnit u.sequence⟩ with fifo := rest, intake := .idle })) ∧
  (∀ (u : UnitReport) (rest : List UnitReport) (i : RecIdx) (echo : ModeEcho) (s : State), s.supply = .inService →
    s.due = [] → s.intake = .translated i → s.fifo = u :: rest → ModeEcho.ofCode u.echoCode = some echo →
    ((∀ r, s.record? i = some r → r.tag ≠ u.tag) →
      exec .reportApplication s =
        .next { s.raise ⟨.tagAlone u.tag, .unknownUnit u.sequence⟩ with fifo := rest, intake := .idle }) ∧
    (∀ r, s.record? i = some r → r.tag = u.tag → r.lastSequence = some u.sequence →
      exec .reportApplication s = .next { s with fifo := rest, intake := .idle }) ∧
    (∀ r, s.record? i = some r → r.tag = u.tag → r.lastSequence ≠ some u.sequence →
      exec .reportApplication s = .next { s.applyReport i r u echo with fifo := rest, intake := .idle }))

/-- An accepted report leaves its record, wherever it still stands, LIVE at age 0, with its sequence, source and clamped
readings stored, its door as the door history, and the seen and changed flags set; it moves no trailer and frees or places
none, and changes nothing else but records, the Defrost Scheduler's tables, the Downlink Queue and what events change. It
takes its steps in the order of Table 3-4: the storing; the frost and the fuel update (FrostIsCounted,
FuelReadingTakesItsCase); the door, the change of source and the termination test (ReportActsOnTheDefrost); the confirmation
(SlotFollowsItsTables); the echo and the demand, with its pass (EchoAndDemandAreTested, GrantPassWalksTheQueue); and the seen
and changed flags. -/
def Obligations.AcceptedReportIsStored : Prop :=
  (∀ (u : UnitReport) (i : RecIdx) (r : TrailerRecord) (echo : ModeEcho) (s : State), s.record? i = some r →
    ∃ (t : State) (x : TrailerRecord), s.applyReport i r u echo = t ∧ t.record? i = some x ∧ x.tag = r.tag ∧ x.bay = r.bay ∧
      x.unitState = .live ∧ x.reportAge = 0 ∧ x.lastSequence = some u.sequence ∧ x.source = u.source ∧
      x.doorHistory = some u.door ∧
      x.readings = some { returnAir := max (-400) (min 600 u.returnAir), coil := max (-400) (min 600 u.coil),
                          ambient := max (-400) (min 600 u.ambient), humidity := u.humidity.map (min · 100),
                          door := u.door, fuel := u.fuel.map (min · 100), echo := echo, readAt := u.arrival } ∧
      x.seen = true ∧ x.changed = true ∧ (∀ j, (t.record? j).isSome = (s.record? j).isSome) ∧
      (∀ j y, s.record? j = some y → (t.record? j).map (fun z => (z.tag, z.bay)) = some (y.tag, y.bay)) ∧
      t = { s with records := t.records, downlink := t.downlink, feeders := t.feeders, queue := t.queue,
                   nextJoin := t.nextJoin, grants := t.grants, nextGrant := t.nextGrant, desks := t.desks,
                   checks := t.checks, nextSerial := t.nextSerial }) ∧
  (∀ (u : UnitReport) (i : RecIdx) (r : TrailerRecord) (echo : ModeEcho) (x : Readings) (s t : State),
    s.record? i = some r → x = u.readings echo →
    t = s.setRecord i (some (r.marking { r with
      doorHistory := some u.door, readings := some x, source := u.source, lastSequence := some u.sequence, reportAge := 0
      unitState := .live })) →
    s.applyReport i r u echo =
      ((((((((t.frostUpdate i x r.doorHistory (timeStep r)).fuelUpdate i u.source x).doorStep i u.door
        r.doorHistory).sourceChange i).terminationTest i x).matchConfirmation i u.confirmed).requeueOnEcho i
          echo).demandStep i).markSeen i) ∧
  (∀ (i : RecIdx) (r : TrailerRecord) (s : State), s.record? i = some r →
    s.markSeen i = s.setRecord i (some { r with seen := true, changed := true }))

/-- The time step of a report is 0 where no sequence has been accepted, and otherwise the report age, at most 900. The frost
level is n exactly for accumulators from 262144 n − 131072 to 262144 n + 131071, and is 65535 at the top. A report adds to the
accumulator its coil term and its door term, each where its echo, coil and doors have it apply, and the sum stops at the top;
the terms of one report are at most 385200000. The frost update of a report writes that accumulator and, as threshold in
force, the override or the threshold of the zone as they stand, and changes nothing else. -/
def Obligations.FrostIsCounted : Prop :=
  (∀ r : TrailerRecord, timeStep r ≤ 900 ∧ (r.lastSequence = none → timeStep r = 0) ∧
    (∀ q, r.lastSequence = some q → (r.reportAge ≤ 900 → timeStep r = r.reportAge) ∧ (900 ≤ r.reportAge → timeStep r = 900))) ∧
  ((∀ a n : Nat, frostLevel a = n ↔ 262144 * n ≤ a + 131072 ∧ a + 131072 < 262144 * (n + 1)) ∧
    frostLevel 17179607040 = 65535) ∧
  (∀ (g : Settings) (a : Nat) (x : Readings) (previous : Option Door) (dt humidity coil door : Nat),
    humidity = (match x.humidity with | some h => h | none => g.humidityFallback) →
    coil = (if x.echo = .cool ∧ x.coil < 0 then (max 0 (min 200 (x.returnAir - x.coil))).toNat * humidity * dt else 0) →
    door = (if (x.echo = .cool ∨ x.echo = .fansOff ∨ x.echo = .standby) ∧ x.coil < 0 ∧
        (x.door = .opened ∨ previous = some .opened) then g.doorWeight * humidity * 16 * dt else 0) →
    frostAfter g a x previous dt = min (a + (coil + door)) 17179607040 ∧
    (dt ≤ 900 → humidity ≤ 100 → g.doorWeight ≤ 255 → coil + door ≤ 385200000)) ∧
  (∀ (i : RecIdx) (x : Readings) (previous : Option Door) (dt : Nat) (r : TrailerRecord) (s : State), s.record? i = some r →
    s.frostUpdate i x previous dt = s.setRecord i (some (r.marking { r with
      frost := frostAfter s.settings r.frost x previous dt
      threshold := match r.thresholdOverride with | some n => n | none => s.zones[r.bay.zone].frostThreshold })))

/-- The quotient that the restoring division develops, one digit per step from the highest, is the floor of the division. The
runway of a level of at most 100 at a known rate is what sixteen steps of the restoring division give, and is at most 60000.
Fuel-low turns on below the floor or the margin, turns off five above the floor and an hour above the margin, and otherwise
stays as it was. -/
def Obligations.FuelIsReckoned : Prop :=
  (∀ bits dividend divisor : Nat, 1 ≤ divisor → dividend < 2 ^ bits →
    restoringDivide dividend divisor bits 0 0 = dividend / divisor) ∧
  (∀ level b : Nat, level ≤ 100 → 1 ≤ b →
    runwayOf level b = restoringDivide (level * 600) b 16 0 0 ∧ runwayOf level b ≤ 60000) ∧
  (∀ (z : Zone) (level b runway : Nat),
    ((level < z.fuelFloor ∨ (0 < b ∧ runway < z.fuelMargin)) → ∀ low, fuelLowAfter z low level b runway = true) ∧
    ((z.fuelFloor + 5 ≤ level ∧ (b = 0 ∨ z.fuelMargin + 60 ≤ runway)) →
      ∀ low, fuelLowAfter z low level b runway = false) ∧
    (¬ (level < z.fuelFloor ∨ (0 < b ∧ runway < z.fuelMargin)) →
      ¬ (z.fuelFloor + 5 ≤ level ∧ (b = 0 ∨ z.fuelMargin + 60 ≤ runway)) →
        ∀ low, fuelLowAfter z low level b runway = low))

/-- A fuel reading of a DIESEL report takes the one case of Table 4-5 it meets, and the runway and then fuel-low are evaluated
with it; a report of a SHORE unit, or with no fuel reading, leaves the fuel fields as they are. The evaluation writes the
runway and fuel-low, and raises FUEL_LOW exactly where fuel-low turns on. A reading equal to the reference leaves the fuel age
running, which is the model's choice where a FUEL_POST set that reference (log 22). -/
def Obligations.FuelReadingTakesItsCase : Prop :=
  (∀ (i : RecIdx) (source : Source) (x : Readings) (s : State), source = .shore ∨ x.fuel = none →
    s.fuelUpdate i source x = s) ∧
  (∀ (i : RecIdx) (x : Readings) (f : Nat) (r : TrailerRecord) (s : State), s.record? i = some r → x.fuel = some f →
    (r.fuelRef = none →
      s.fuelUpdate i .diesel x =
        (s.setRecord i (some { r with fuelRef := some f, fuelAge := 0, changed := true })).evaluateFuel i f) ∧
    (∀ p, r.fuelRef = some p → f < p →
      s.fuelUpdate i .diesel x =
        (s.setRecord i (some { r with
          burnRate := (7 * r.burnRate + min ((p - f) * 36000 / max r.fuelAge 60) 1000 + 4) / 8
          fuelRef := some f, fuelAge := 0, changed := true })).evaluateFuel i f) ∧
    (∀ p, r.fuelRef = some p → p + 5 ≤ f →
      s.fuelUpdate i .diesel x =
        (((s.setRecord i (some (r.marking { r with lastRefuel := some ⟨x.readAt, some (f - p)⟩ }))).raise
          ⟨.trailer r.tag r.bay i, .refuelSeen (some (f - p))⟩).setRecord i (some { r with
            lastRefuel := some ⟨x.readAt, some (f - p)⟩, fuelRef := some f, fuelAge := 0, changed := true })).evaluateFuel
              i f) ∧
    (∀ p, r.fuelRef = some p → p < f → f < p + 5 →
      s.fuelUpdate i .diesel x =
        (s.setRecord i (some { r with fuelRef := some f, fuelAge := 0, changed := true })).evaluateFuel i f) ∧
    (r.fuelRef = some f → s.fuelUpdate i .diesel x = s.evaluateFuel i f)) ∧
  (∀ (i : RecIdx) (level runway : Nat) (low : Bool) (r : TrailerRecord) (s t : State), s.record? i = some r →
    runway = (if r.burnRate = 0 then 65535 else level * 600 / r.burnRate) →
    low = fuelLowAfter s.zones[r.bay.zone] r.fuelLow level r.burnRate runway →
    t = s.setRecord i (some (r.marking { r with runway := runway, fuelLow := low })) →
    (low = true ∧ r.fuelLow = false →
      s.evaluateFuel i level =
        t.raise ⟨.trailer r.tag r.bay i, .fuelLow level (if runway = 65535 then none else some runway)⟩) ∧
    (¬ (low = true ∧ r.fuelLow = false) → s.evaluateFuel i level = t))

/-- FUEL_POST from OFC, or from PAT with the CHECK right, sets the fuel reference to the level posted with fuel age 0, keeps the
burn rate, writes an undated amount into the last refuel exactly where refuelled is yes, evaluates the runway from the level,
and answers DONE; besides that record it changes only what the events it raises change. -/
def Obligations.FuelPostSetsTheReference : Prop :=
  ∀ (m : Master) (n : Subject) (level : Nat) (refuelled : Bool) (s s' : State) (res : Resolved) (r : TrailerRecord),
    s.ready m.port → (m = .ofc ∨ (m = .pat ∧ res.rights.check = true)) → n.inRange → level ≤ 100 →
    (s.received m.port).resolvesTo m n s' res → s'.record? res.record = some r →
    ∃ (u : State) (x : TrailerRecord), exec (.fuelPost m.port (Request.fuelPost n level refuelled).body) s =
        .next (u.answered m.port .fuelPost (.done .nothing)) ∧
      u.record? res.record = some x ∧ x.fuelRef = some level ∧ x.fuelAge = 0 ∧ x.burnRate = r.burnRate ∧
      x.runway = (if r.burnRate = 0 then 65535 else level * 600 / r.burnRate) ∧
      x.lastRefuel = (if refuelled then some { time := s.clock.time, amount := none } else r.lastRefuel) ∧
      x.frost = r.frost ∧ x.chain = r.chain ∧ x.slot = r.slot ∧ (∀ j, j ≠ res.record → u.record? j = s.record? j) ∧
      u = { s' with records := u.records, desks := u.desks, checks := u.checks, nextSerial := u.nextSerial }

/-! ## Chains and unit commands -/

/-- The hand-off of a wanted command acts on the slot it finds as Table 7-2 gives, and on the Downlink Queue only from EMPTY; in
COMMISSION mode it is discarded. A confirmation equal to the sequence in flight clears the flight and queues any next command at
the tail; any other, or none, does nothing. -/
def Obligations.SlotFollowsItsTables : Prop :=
  (∀ (i : RecIdx) (w : Command) (r : TrailerRecord) (s : State), s.record? i = some r →
    (s.mode = .commission → s.handOff i w = s) ∧
    (s.mode = .yard →
      (r.slot = .empty →
        s.handOff i w = { s.setRecord i (some { r with slot := .queued w, changed := true }) with
          downlink := s.downlink ++ [i] }) ∧
      (∀ q, r.slot = .queued q → q ≠ w →
        s.handOff i w = s.setRecord i (some { r with slot := .queued w, changed := true })) ∧
      (∀ q, r.slot = .queued q → q = w → s.handOff i w = s) ∧
      (∀ f, r.slot = .sent f → f.command = w → s.handOff i w = s) ∧
      (∀ f, r.slot = .sent f → f.command ≠ w →
        s.handOff i w = s.setRecord i (some { r with slot := .sentNext f w, changed := true })) ∧
      (∀ f n, r.slot = .sentNext f n → f.command = w →
        s.handOff i w = s.setRecord i (some { r with slot := .sent f, changed := true })) ∧
      (∀ f n, r.slot = .sentNext f n → f.command ≠ w → n ≠ w →
        s.handOff i w = s.setRecord i (some { r with slot := .sentNext f w, changed := true })) ∧
      (∀ f n, r.slot = .sentNext f n → f.command ≠ w → n = w → s.handOff i w = s))) ∧
  (∀ (i : RecIdx) (r : TrailerRecord) (f : InFlight) (n : Nat) (s : State), s.record? i = some r →
    s.matchConfirmation i none = s ∧
    (r.slot.flight = none → s.matchConfirmation i (some n) = s) ∧
    (r.slot.flight = some f → n ≠ f.sequence.val → s.matchConfirmation i (some n) = s) ∧
    (r.slot = .sent f → n = f.sequence.val →
      s.matchConfirmation i (some n) = s.setRecord i (some { r with slot := .empty, changed := true })) ∧
    (∀ next, r.slot = .sentNext f next → n = f.sequence.val →
      s.matchConfirmation i (some n) =
        { s.setRecord i (some { r with slot := .queued next, changed := true }) with downlink := s.downlink ++ [i] }))

/-- A push of an activity that is absent puts it on top, with the kind that was newest as its covered reference, and hands its
wanted command; a removal of the newest hands the wanted command of the entry beneath; a removal from beneath, a push of a kind
present and a removal of a kind absent hand nothing. -/
def Obligations.ChainChangesHandOver : Prop :=
  ∀ (i : RecIdx) (k : Activity) (setBy : Option Master) (r : TrailerRecord) (s : State), s.record? i = some r →
    (r.holds k = true → s.pushActivity i k setBy = s) ∧
    (r.holds k = false →
      s.pushActivity i k setBy =
        (s.setRecord i (some { r with
          chain := r.chain ++ [{ kind := k, covered := some r.effective, setBy := setBy }], changed := true })).handOff
          i k.wanted) ∧
    (r.holds k = false → s.removeActivity i k = s) ∧
    (r.holds k = true → r.effective ≠ k →
      s.removeActivity i k =
        s.setRecord i (some { r with chain := r.chain.filter (fun e => e.kind ≠ k), changed := true })) ∧
    (r.holds k = true → r.effective = k → effectiveOf (r.chain.filter fun e => e.kind ≠ k) ≠ .defrost →
      s.removeActivity i k =
        (s.setRecord i (some { r with chain := r.chain.filter (fun e => e.kind ≠ k), changed := true })).handOff i
          (effectiveOf (r.chain.filter fun e => e.kind ≠ k)).wanted) ∧
    (∀ d, r.holds k = true → r.effective = k → effectiveOf (r.chain.filter fun e => e.kind ≠ k) = .defrost →
      r.run = some d →
      s.removeActivity i k =
        (s.setRecord i (some { r with chain := r.chain.filter (fun e => e.kind ≠ k), run := some { d with paused := 0 },
                                      changed := true })).handOff i .heatOn)

/-- What a report does to holds and to a grant that stands. A door that turns OPEN starts a new count and pushes DOOR_HOLD; one
that turns CLOSED ends the count and removes DOOR_HOLD; any other leaves both. A SHORE grant whose report gives DIESEL gives its
load back and goes on as a DIESEL grant; a DIESEL grant whose report gives SHORE is charged to the feeder of its zone where the
load fits, and is otherwise revoked with cause SOURCE. A running defrost whose report echoes HEAT, with the coil at or above its
zone's termination temperature, ends as TERMINATED, and any other goes on. -/
def Obligations.ReportActsOnTheDefrost : Prop :=
  ∀ (i : RecIdx) (r : TrailerRecord) (x : Readings) (previous : Option Door) (s : State), s.record? i = some r →
    ((previous = some .opened → s.doorStep i .opened previous = s) ∧
      (previous ≠ some .opened → s.doorStep i .opened previous =
        (s.setRecord i (some (r.marking { r with doorOpenSince := some 0, alarmMark := false }))).pushActivity i .doorHold
          none) ∧
      (previous = some .closed → s.doorStep i .closed previous = s) ∧
      (previous ≠ some .closed → s.doorStep i .closed previous =
        (s.setRecord i (some (r.marking { r with doorOpenSince := none, alarmMark := false }))).removeActivity i
          .doorHold)) ∧
    ((r.run = none → s.sourceChange i = s) ∧
      (∀ d f, r.run = some d → r.source = .diesel → d.feeder = some f →
        s.sourceChange i =
          { (s.setFeeder f { s.feeders[f] with granted := s.feeders[f].granted - d.load }).setRecord i
              (some { r with run := some { d with feeder := none }, changed := true }) with
            grants := s.grants.map fun g => if g.record = i then { g with feeder := none } else g }) ∧
      (∀ d f, r.run = some d → r.source = .shore → d.feeder = none → f = s.zones[r.bay.zone].feeder →
        (s.feeders[f].granted + d.load ≤ s.feeders[f].budget →
          s.sourceChange i =
            { (s.setFeeder f { s.feeders[f] with granted := s.feeders[f].granted + d.load }).setRecord i
                (some { r with run := some { d with feeder := some f }, changed := true }) with
              grants := s.grants.map fun g => if g.record = i then { g with feeder := some f } else g }) ∧
        (s.feeders[f].budget < s.feeders[f].granted + d.load →
          s.sourceChange i = s.endDefrost i (.revoked .source none))) ∧
      (∀ d, r.run = some d → (r.source = .diesel ↔ d.feeder = none) → s.sourceChange i = s)) ∧
    (s.terminationTest i x =
      if r.effective = .defrost ∧ x.echo = .heat ∧ s.zones[r.bay.zone].terminationTemp ≤ x.coil then
        s.endDefrost i .terminated
      else s)

/-- In YARD mode an echo that is not the one expected of the effective activity queues that activity's command where the slot
is EMPTY, and does nothing otherwise; in COMMISSION mode it does nothing. Demand at a report: the excess of an automatic entry
is written anew and the entry moves to its place, or leaves where the level has fallen below the threshold; a trailer whose
level meets its threshold, with no DEFROST, no entry and the cancel latch clear, joins with FROST_DEMAND; and a pass runs. An
entry is made with the next joined-at, the standing ones first numbered anew where the counter has passed its top, and stands
by excess and then by joined-at. -/
def Obligations.EchoAndDemandAreTested : Prop :=
  (∀ (i : RecIdx) (echo : ModeEcho) (r : TrailerRecord) (s : State), s.record? i = some r →
    (s.mode = .commission → s.requeueOnEcho i echo = s) ∧
    (∀ a c e, s.mode = .yard → r.effective = a →
      (a, c, e) ∈ [(Activity.cool, Command.coolResume, ModeEcho.cool), (.defrost, .heatOn, .heat),
        (.doorHold, .fansOff, .fansOff), (.serviceHold, .standby, .standby)] →
      (r.slot = .empty → echo ≠ e →
        s.requeueOnEcho i echo =
          { s.setRecord i (some { r with slot := .queued c, changed := true }) with downlink := s.downlink ++ [i] }) ∧
      (echo = e ∨ r.slot ≠ .empty → s.requeueOnEcho i echo = s))) ∧
  (∀ (i : RecIdx) (r : TrailerRecord) (s : State), s.record? i = some r →
    s.demandStep i = ((s.recomputeExcess i).evaluateDemand i).grantPass ∧
    ((∀ e ∈ s.queue, e.record ≠ i) → s.recomputeExcess i = s) ∧
    (∀ e, s.queue.find? (fun x => x.record = i) = some e →
      (e.manual = true → s.recomputeExcess i = s) ∧
      (e.manual = false → r.threshold ≤ r.level →
        s.recomputeExcess i = { s with
          queue := insertEntry { e with excess := r.level - r.threshold } (s.queue.filter fun x => x.record ≠ i) }) ∧
      (e.manual = false → r.level < r.threshold →
        s.recomputeExcess i = { s with
          queue := s.queue.filter fun x => x.record ≠ i
          nextJoin := if (s.queue.filter fun x => x.record ≠ i) = [] then 1 else s.nextJoin })) ∧
    (r.threshold ≤ r.level → r.holds .defrost = false → (∀ e ∈ s.queue, e.record ≠ i) → r.cancelLatch = false →
      s.evaluateDemand i = (s.joinQueue i (r.level - r.threshold) false 0).raise
        ⟨.trailer r.tag r.bay i, .frostDemand (r.level - r.threshold) r.level r.threshold⟩) ∧
    (r.level < r.threshold ∨ r.holds .defrost = true ∨ (∃ e ∈ s.queue, e.record = i) ∨ r.cancelLatch = true →
      s.evaluateDemand i = s)) ∧
  (∀ (i : RecIdx) (excess passes : Nat) (manual : Bool) (s : State),
    (s.nextJoin ≤ 4294967295 → s.joinQueue i excess manual passes = { s with
      queue := insertEntry ⟨i, excess, manual, s.nextJoin, passes⟩ s.queue, nextJoin := s.nextJoin + 1 }) ∧
    (4294967295 < s.nextJoin → s.joinQueue i excess manual passes = { s with
      queue := insertEntry ⟨i, excess, manual, s.queue.length + 1, passes⟩ (renumberFrom 1 s.queue)
      nextJoin := s.queue.length + 2 })) ∧
  (∀ (e : QueueEntry) (q : List QueueEntry), (insertEntry e q).Perm (e :: q) ∧
    (q.Pairwise (fun a b => b.excess < a.excess ∨ (a.excess = b.excess ∧ a.joinedAt < b.joinedAt)) →
      (∀ x ∈ q, x.joinedAt ≠ e.joinedAt) →
      (insertEntry e q).Pairwise fun a b => b.excess < a.excess ∨ (a.excess = b.excess ∧ a.joinedAt < b.joinedAt)))

/-- HOLD_SET from OFC, or from PAT with the HOLD right, pushes SERVICE_HOLD with the port as its set-by and answers DONE; a
chain that holds it already is answered BUSY, and is left as it is. HOLD_CLEAR from OFC, or from PAT with the HOLD right,
removes SERVICE_HOLD and answers DONE; where that leaves [COOL], demand is evaluated and a grant pass runs. A chain without it
is answered NOT_PRESENT at level RECORD. Each of the five requests of PAT that need a right on their trailer, where the
resolution lacks it, is answered RIGHTS with its cause record, raises RIGHTS_REFUSAL with the same, and has no other effect. -/
def Obligations.HoldIsSetAndCleared : Prop :=
  (∀ (m : Master) (n : Subject) (s s' : State) (res : Resolved) (r : TrailerRecord), s.ready m.port →
    (m = .ofc ∨ (m = .pat ∧ res.rights.hold = true)) → n.inRange → (s.received m.port).resolvesTo m n s' res →
    s'.record? res.record = some r →
    exec (.holdSet m.port (Request.holdSet n).body) s =
      if r.holds .serviceHold then .next (s'.answered m.port .holdSet .busy)
      else .next ((s'.pushActivity res.record .serviceHold (some m)).answered m.port .holdSet (.done .nothing))) ∧
  (∀ (m : Master) (n : Subject) (s s' : State) (res : Resolved) (r : TrailerRecord), s.ready m.port →
    (m = .ofc ∨ (m = .pat ∧ res.rights.hold = true)) → n.inRange → (s.received m.port).resolvesTo m n s' res →
    s'.record? res.record = some r →
    (r.holds .serviceHold = false →
      exec (.holdClear m.port (Request.holdClear n).body) s =
        .next (s'.answered m.port .holdClear
          (.notPresent { level := .record, access := .act, path := res.path, name := n }))) ∧
    (r.holds .serviceHold = true → (r.chain.filter fun e => e.kind ≠ .serviceHold).map ChainEntry.kind ≠ [.cool] →
      exec (.holdClear m.port (Request.holdClear n).body) s =
        .next ((s'.removeActivity res.record .serviceHold).answered m.port .holdClear (.done .nothing))) ∧
    (r.holds .serviceHold = true → (r.chain.filter fun e => e.kind ≠ .serviceHold).map ChainEntry.kind = [.cool] →
      exec (.holdClear m.port (Request.holdClear n).body) s =
        .next (((s'.removeActivity res.record .serviceHold).evaluateDemand res.record).grantPass.answered m.port
          .holdClear (.done .nothing)))) ∧
  (∀ (req : Request) (right : Right) (n : Subject) (cause : Cause) (s s' : State) (res : Resolved) (r : TrailerRecord),
    (((req, right) ∈ [(.holdSet n, .hold), (.holdClear n, .hold), (.defrostRequest n, .defrost)]) ∨
      (∃ level refuelled, req = .fuelPost n level refuelled ∧ right = .check) ∨
      ∃ t result, n = .tag t ∧ req = .checkClose t result ∧ right = .check) →
    s.ready .pat → req.inRange → (s.received .pat).resolvesTo .pat n s' res → s'.record? res.record = some r →
    res.rights.has right = false →
    cause = { level := match res.path with
                | .cached => .record
                | .walked => if s.zones[res.bay.zone].rights.has right then .bay else .zone
              access := .act, path := res.path, name := n } →
    exec (frameCommand .pat req.kind.code req.body) s =
      .next ((s'.raise ⟨.trailer r.tag r.bay res.record, .rightsRefusal .pat cause⟩).answered .pat req.kind (.rights cause)))

/-! ## The Defrost Scheduler -/

/-- An entry is eligible exactly when its record is LIVE, its latest mode echo is not OFF, its chain is exactly [COOL], its
not-before is 0 and the part is in YARD mode; a grant pass skips an ineligible entry and leaves it, its excess and its pass
count. -/
def Obligations.EligibilityIsReadOff : Prop :=
  ∀ (s : State) (r : TrailerRecord),
    (s.eligible r = true ↔ r.unitState = .live ∧ (∀ x, r.readings = some x → x.echo ≠ .off) ∧
      r.chain.map ChainEntry.kind = [.cool] ∧ r.notBefore = 0 ∧ s.mode = .yard) ∧
    (∀ (p : Pass) (i : RecIdx), p.state.record? i = some r → p.state.eligible r = false → p.consider i = p) ∧
    ∀ e v, s.record? e.record = some r → s.queueView e = some v → v.eligible = s.eligible r

/-- A grant takes the record's entry from the queue, makes its run data with the next grant number, charges the feeder of a
SHORE grant, appends the item to the grant list, and pushes DEFROST; it raises no event, and changes no other record. -/
def Obligations.GrantIsMade : Prop :=
  ∀ (i : RecIdx) (f : Option FeederNo) (load : Nat) (r : TrailerRecord) (s : State), s.record? i = some r →
    r.chain.map ChainEntry.kind = [.cool] →
    ∃ (t : State) (x : TrailerRecord), s.grant i f load = t ∧ t.record? i = some x ∧
      x.run = some { grant := s.nextGrant, feeder := f, load := load, heating := 0, paused := 0 } ∧
      x.chain = r.chain ++ [{ kind := .defrost, covered := some .cool, setBy := none }] ∧ x.changed = true ∧
      x.frost = r.frost ∧ x.notBefore = r.notBefore ∧
      t.grants = s.grants ++ [{ number := s.nextGrant, record := i, feeder := f, load := load }] ∧
      t.nextGrant = (if s.nextGrant = 4294967295 then 1 else s.nextGrant + 1) ∧
      t.queue = s.queue.filter (fun e => e.record ≠ i) ∧
      (∀ g : FeederNo, t.feeders[g] =
        if f = some g then { s.feeders[g] with granted := s.feeders[g].granted + load } else s.feeders[g]) ∧
      (∀ j, j ≠ i → t.record? j = s.record? j) ∧
      t = { s with records := t.records, downlink := t.downlink, feeders := t.feeders, queue := t.queue,
                   nextJoin := t.nextJoin, grants := t.grants, nextGrant := t.nextGrant }

/-- A grant pass considers the entries in queue order, as the queue stands when it starts, and does with each eligible one
what Table 6-2 gives: a DIESEL entry is granted; a SHORE entry that fits is granted where its feeder has no blocker, and each
entry marked passed over on that feeder then gains one pass count; one that does not fit is marked passed over, or where it is
pinned becomes the feeder's blocker. An entry gains at most one count in a pass, and never more than 4. FEEDER_SHORT is raised
for each entry whose count went from 3 to 4, in the order of pinning, with the budget and granted sum as the pass has left
them; that it is raised when the walk is over is DEDUCED (log 12). -/
def Obligations.GrantPassWalksTheQueue : Prop :=
  (∀ (p : Pass) (i : RecIdx) (e : QueueEntry) (r : TrailerRecord) (load : Nat), p.state.record? i = some r →
    p.state.queue.find? (fun x => x.record = i) = some e → p.state.eligible r = true →
    load = (match r.heaterLoad with | some n => n | none => p.state.zones[r.bay.zone].defaultLoad) →
    (r.source = .diesel → p.consider i = { p with state := p.state.grant i none load }) ∧
    (∀ (f : FeederNo) (t : State), r.source = .shore → f = p.state.zones[r.bay.zone].feeder → t = p.state.grant i (some f) load →
      (p.state.feeders[f].granted + load ≤ p.state.feeders[f].budget → f ∉ p.blocked →
        p.consider i =
          { state := { t with queue := t.queue.map fun x =>
              if (f, x.record) ∈ p.passedOver then { x with passCount := min (x.passCount + 1) 4 } else x }
            passedOver := p.passedOver.filter fun x => x.1 ≠ f
            blocked := p.blocked
            short := p.short ++ (t.queue.filter fun x => (f, x.record) ∈ p.passedOver ∧ x.passCount = 3).map
              fun x => (f, x.record) }) ∧
      (p.state.feeders[f].granted + load ≤ p.state.feeders[f].budget → f ∈ p.blocked → p.consider i = p) ∧
      (p.state.feeders[f].budget < p.state.feeders[f].granted + load → e.passCount < 4 →
        p.consider i = { p with passedOver := p.passedOver ++ [(f, i)] }) ∧
      (p.state.feeders[f].budget < p.state.feeders[f].granted + load → 4 ≤ e.passCount →
        p.consider i = if f ∈ p.blocked then p else { p with blocked := p.blocked ++ [f] }))) ∧
  (∀ (s : State) (p : Pass), p = (s.queue.map QueueEntry.record).foldl Pass.consider ⟨s, [], [], []⟩ →
    s.grantPass = p.short.foldl (fun t x => match t.record? x.2 with
      | none => t
      | some r => t.raise ⟨.trailer r.tag r.bay x.2, .feederShort x.1
          (match r.heaterLoad with | some n => n | none => t.zones[r.bay.zone].defaultLoad)
          t.feeders[x.1].budget t.feeders[x.1].granted⟩) p.state) ∧
  (∀ s : State, (s.queue.map QueueEntry.record).Nodup → ∀ x ∈ s.grantPass.queue,
    ∃ e ∈ s.queue, x = e ∨ (e.passCount < 4 ∧ x = { e with passCount := e.passCount + 1 }))

/-- An end of a defrost removes the run data, the grant list item and DEFROST, gives the load of a SHORE grant back to its
feeder, and leaves the accumulator, the not-before and the cancel latch as Tables 4-1 and 6-3 give; besides these it changes
only the queue, the Downlink Queue and what events change. It takes the steps of R106 in their order: Chain Control removes
DEFROST, the end's event is raised with its reason, grant number and heating seconds, and last the queue action is taken:
TIMED_OUT evaluates demand, and REVOKED puts a trailer whose level still meets its threshold back, pinned. -/
def Obligations.DefrostEnds : Prop :=
  (∀ (i : RecIdx) (k : EndKind) (d : RunData) (r : TrailerRecord) (s : State), s.record? i = some r → r.run = some d →
    ∃ (t : State) (x : TrailerRecord), s.endDefrost i k = t ∧ t.record? i = some x ∧ x.run = none ∧
      x.holds .defrost = false ∧ x.chain = r.chain.filter (fun e => e.kind ≠ .defrost) ∧ x.changed = true ∧
      x.frost = (match k with | .terminated => 0 | .timedOut => r.frost / 2 | _ => r.frost) ∧
      x.notBefore = (match k with | .terminated => 1800 | .timedOut => 1800 | .revoked _ (some w) => w | _ => r.notBefore) ∧
      x.cancelLatch = (match k with | .cancelled => true | _ => r.cancelLatch) ∧
      t.grants = s.grants.filter (fun g => g.record ≠ i) ∧
      (∀ f : FeederNo, t.feeders[f] =
        if d.feeder = some f then { s.feeders[f] with granted := s.feeders[f].granted - d.load } else s.feeders[f]) ∧
      (∀ j, j ≠ i → t.record? j = s.record? j) ∧
      t = { s with records := t.records, downlink := t.downlink, feeders := t.feeders, queue := t.queue,
                   nextJoin := t.nextJoin, grants := t.grants, desks := t.desks, checks := t.checks,
                   nextSerial := t.nextSerial }) ∧
  (∀ (i : RecIdx) (k : EndKind) (d : RunData) (r y : TrailerRecord) (s u v w : State) (e : Event), s.record? i = some r →
    r.run = some d →
    u = (match d.feeder with
      | some f => s.setFeeder f { s.feeders[f] with granted := s.feeders[f].granted - d.load }
      | none => s) →
    v = State.removeActivity i .defrost { u.setRecord i (some { r with
        run := none, frost := (match k with | .terminated => 0 | .timedOut => r.frost / 2 | _ => r.frost), changed := true }) with
      grants := s.grants.filter fun g => g.record ≠ i } →
    v.record? i = some y →
    e = ⟨.trailer r.tag r.bay i, match k with
      | .terminated => .defrostDone d.grant d.heating
      | .timedOut => .defrostStopped .timedOut d.grant d.heating
      | .revoked cause _ => .defrostStopped (.revoked cause) d.grant d.heating
      | .abandoned => .defrostStopped .abandoned d.grant d.heating
      | .cancelled => .defrostStopped .cancelled d.grant d.heating
      | .released => .defrostStopped .released d.grant d.heating⟩ →
    w = (v.setRecord i (some { y with
      notBefore := (match k with | .terminated => 1800 | .timedOut => 1800 | .revoked _ (some n) => n | _ => y.notBefore)
      cancelLatch := (match k with | .cancelled => true | _ => y.cancelLatch) })).raise e →
    s.endDefrost i k = (match k with
      | .timedOut => w.evaluateDemand i
      | .revoked _ _ => if y.threshold ≤ y.level then w.joinQueue i (y.level - y.threshold) false 4 else w
      | _ => w))

/-- SET_BUDGET sets a budget, clamped to 4000, and answers DONE with the budget and the granted sum after it. A raise runs a
grant pass, a cut below the granted sum revokes grants of the feeder newest first until the sum is within the budget and then
runs one pass, and any other value is only written. A feeder above 3 is refused RANGE. -/
def Obligations.SetBudgetRaisesAndCuts : Prop :=
  (∀ (f : FeederNo) (v : Nat) (s t : State), v ≤ 65535 → s.ready .cab →
    t = (s.received .cab).setFeeder f { s.feeders[f] with budget := min v 4000 } →
    ∃ u : State, exec (.setBudget .cab (Request.setBudget f v).body) s =
        .next (u.answered .cab .setBudget (.done (.budget u.feeders[f].budget u.feeders[f].granted))) ∧
      (s.feeders[f].budget < min v 4000 → u = t.grantPass) ∧
      (s.feeders[f].budget = min v 4000 → u = s.received .cab) ∧
      (min v 4000 < s.feeders[f].budget → s.feeders[f].granted ≤ min v 4000 → u = t) ∧
      (min v 4000 < s.feeders[f].budget → min v 4000 < s.feeders[f].granted →
        u = (t.cutGrants f t.grants.length).grantPass)) ∧
  (∀ (f v1 v0 : Byte) (s : State), s.ready .cab → 4 ≤ f.toNat →
    exec (.setBudget .cab [f, v1, v0]) s = .next ((s.received .cab).answered .cab .setBudget .range))

/-- DEFROST_REQUEST from OFC, or from PAT with the DEFROST right: BUSY while DEFROST stands; otherwise the cancel latch is
cleared, the trailer's entry is made, or made manual in place, at the top excess, and a grant pass runs. DEFROST_CANCEL on a
queued trailer removes its entry and sets the cancel latch, with no event and no pass; on a trailer with a defrost it ends it as
CANCELLED and a pass runs; on any other it sets the latch. -/
def Obligations.DefrostIsRequestedAndCancelled : Prop :=
  (∀ (m : Master) (n : Subject) (s s' : State) (res : Resolved) (r : TrailerRecord), s.ready m.port →
    (m = .ofc ∨ (m = .pat ∧ res.rights.defrost = true)) → n.inRange → (s.received m.port).resolvesTo m n s' res →
    s'.record? res.record = some r →
    (r.holds .defrost = true →
      exec (.defrostRequest m.port (Request.defrostRequest n).body) s =
        .next (s'.answered m.port .defrostRequest .busy)) ∧
    (r.holds .defrost = false → (∀ e ∈ s.queue, e.record ≠ res.record) → s.nextJoin ≤ 4294967295 →
      exec (.defrostRequest m.port (Request.defrostRequest n).body) s =
        .next (({ (s'.setRecord res.record (some (r.marking { r with cancelLatch := false }))) with
            queue := insertEntry ⟨res.record, 65535, true, s.nextJoin, 0⟩ s.queue, nextJoin := s.nextJoin + 1 }.raise
              ⟨.trailer r.tag r.bay res.record, .frostDemandManual m⟩).grantPass.answered m.port .defrostRequest
          (.done .nothing))) ∧
    (∀ e, r.holds .defrost = false → s.queue.find? (fun x => x.record = res.record) = some e →
      exec (.defrostRequest m.port (Request.defrostRequest n).body) s =
        .next ({ (s'.setRecord res.record (some (r.marking { r with cancelLatch := false }))) with
            queue := insertEntry { e with manual := true, excess := 65535 }
              (s.queue.filter fun x => x.record ≠ res.record) }.grantPass.answered m.port .defrostRequest
          (.done .nothing)))) ∧
  (∀ (n : Subject) (s s' : State) (res : Resolved) (r : TrailerRecord), s.ready .ofc → n.inRange →
    (s.received .ofc).resolvesTo .ofc n s' res → s'.record? res.record = some r →
    ((∃ e ∈ s.queue, e.record = res.record) →
      exec (.defrostCancel .ofc (Request.defrostCancel n).body) s =
        .next (((s'.leaveQueue res.record).setRecord res.record
          (some (r.marking { r with cancelLatch := true }))).answered .ofc .defrostCancel (.done .nothing))) ∧
    ((∀ e ∈ s.queue, e.record ≠ res.record) → r.run.isSome →
      exec (.defrostCancel .ofc (Request.defrostCancel n).body) s =
        .next ((s'.endDefrost res.record .cancelled).grantPass.answered .ofc .defrostCancel (.done .nothing))) ∧
    ((∀ e ∈ s.queue, e.record ≠ res.record) → r.run = none →
      exec (.defrostCancel .ofc (Request.defrostCancel n).body) s =
        .next ((s'.setRecord res.record (some (r.marking { r with cancelLatch := true }))).answered .ofc
          .defrostCancel (.done .nothing))))

/-- REVOKE from CAB with the DEFROST right ends the named trailer's defrost as REVOKED with the deferral in minutes as its wait,
and then runs a grant pass; without a defrost it is answered NOT_PRESENT at level RECORD; without the right it is answered
RIGHTS, raises RIGHTS_REFUSAL and has no other effect. -/
def Obligations.RevokeEnds : Prop :=
  ∀ (n : Subject) (deferral : Nat) (s s' : State) (res : Resolved) (r : TrailerRecord), s.ready .cab → n.inRange →
    deferral ≤ 240 → (s.received .cab).resolvesTo .cab n s' res → s'.record? res.record = some r →
    (res.rights.defrost = true → r.run.isSome →
      exec (.revoke .cab (Request.revoke n deferral).body) s =
        .next ((s'.endDefrost res.record (.revoked .revoke (some (deferral * 60)))).grantPass.answered .cab .revoke
          (.done .nothing))) ∧
    (res.rights.defrost = true → r.run = none →
      exec (.revoke .cab (Request.revoke n deferral).body) s =
        .next (s'.answered .cab .revoke
          (.notPresent { level := .record, access := .act, path := res.path, name := n }))) ∧
    (res.rights.defrost = false →
      ∃ cause : Cause, exec (.revoke .cab (Request.revoke n deferral).body) s =
          .next ((s'.raise ⟨.trailer r.tag r.bay res.record, .rightsRefusal .cab cause⟩).answered .cab .revoke
            (.rights cause)) ∧
        cause.access = .act ∧ cause.path = res.path ∧ cause.name = n ∧
        (res.path = .cached → cause.level = .record) ∧
        (res.path = .walked → cause.level = if s.zones[res.bay.zone].rights.defrost then .bay else .zone))

/-! ## The Yard Clock, the Round Plans and the Check List -/

/-- One second on the Yard Clock: the second rises, or passes from 59 to 0 with the minute, hour, day, month and year carried
as the calendar of Table 8-2 has them and the weekday one on at midnight. CLOCK_SET in range writes every field, sets valid,
tests no plan and answers DONE; CLOCK_TRIM of a clock that is not valid answers BUSY, below second 30 it goes back to second 0
and tests no plan, and from 30 on it goes to the next minute and tests the plans. -/
def Obligations.ClockCarriesAndIsSet : Prop :=
  (∀ c : Clock, c.ok →
      (c.time.second < 59 → c.tick = { c with time := { c.time with second := c.time.second + 1 } }) ∧
      (c.time.second = 59 → c.time.minute < 59 →
        c.tick = { c with time := { c.time with minute := c.time.minute + 1, second := 0 } }) ∧
      (c.time.second = 59 → c.time.minute = 59 → c.time.hour < 23 →
        c.tick = { c with time := { c.time with hour := c.time.hour + 1, minute := 0, second := 0 } }) ∧
      (c.time.second = 59 → c.time.minute = 59 → c.time.hour = 23 →
        c.tick.weekday = (if c.weekday = 7 then 1 else c.weekday + 1) ∧ c.tick.valid = c.valid ∧
        (c.time.day < monthLength c.time.year c.time.month →
          c.tick.time = ⟨c.time.year, c.time.month, c.time.day + 1, 0, 0, 0⟩) ∧
        (c.time.day = monthLength c.time.year c.time.month → c.time.month < 12 →
          c.tick.time = ⟨c.time.year, c.time.month + 1, 1, 0, 0, 0⟩) ∧
        (c.time.day = 31 → c.time.month = 12 →
          c.tick.time = ⟨if c.time.year = 99 then 0 else c.time.year + 1, 1, 1, 0, 0, 0⟩))) ∧
  (∀ (t : YardTime) (w : Nat) (s : State), s.ready .ofc →
      (t.inRange → 1 ≤ w → w ≤ 7 →
        exec (.clockSet .ofc (Request.clockSet t w).body) s =
          .next ({ s.received .ofc with clock := { time := t, weekday := w, valid := true } }.answered .ofc .clockSet
            (.done .nothing))) ∧
      (s.clock.valid = false →
        exec (.clockTrim .ofc []) s = .next ((s.received .ofc).answered .ofc .clockTrim .busy)) ∧
      (s.clock.valid = true → s.clock.time.second < 30 →
        exec (.clockTrim .ofc []) s =
          .next ({ s.received .ofc with clock := { s.clock with time := { s.clock.time with second := 0 } } }.answered .ofc
            .clockTrim (.done .nothing))) ∧
      (s.clock.valid = true → 30 ≤ s.clock.time.second →
        exec (.clockTrim .ofc []) s =
          .next ({ s.received .ofc with clock := s.clock.nextMinute }.testPlans.answered .ofc .clockTrim (.done .nothing))))

/-- The Round Plans are tested, in plan order, where the clock is valid and the part in service, and not otherwise. A plan
matches when it is active and the clock, as the rollover leaves it, meets its match, by its period or by the fields its
collation range names. It then raises ROUND_MATCH and asks for a NORMAL item of its kind, with itself as origin and the time
now, at every bay of its zones in rising zone and bay that holds a trailer, and for FUEL_ROUND a DIESEL one; a plan that does
not match does nothing. -/
def Obligations.PlansAreTested : Prop :=
  (∀ s : State, ¬ (s.clock.valid = true ∧ s.supply = .inService) → s.testPlans = s) ∧
  (∀ s : State, s.clock.valid = true → s.supply = .inService →
    s.testPlans = [(0 : Fin 8), 1, 2, 3, 4, 5, 6, 7].foldl State.testPlan s) ∧
  (∀ (p : Fin 8) (s : State) (plan : Plan) (met : Prop), plan = s.plans[p] →
    (met ↔ match plan.rule with
      | .every period => (s.clock.time.hour * 60 + s.clock.time.minute) % period = 0
      | .atTime minute _ _ _ .m => s.clock.time.minute = minute
      | .atTime minute hour _ _ .hm => s.clock.time.hour = hour ∧ s.clock.time.minute = minute
      | .atTime minute hour weekday _ .whm =>
        s.clock.weekday = weekday ∧ s.clock.time.hour = hour ∧ s.clock.time.minute = minute
      | .atTime minute hour _ day .dhm =>
        s.clock.time.day = day ∧ s.clock.time.hour = hour ∧ s.clock.time.minute = minute) →
    (¬ (plan.active = true ∧ met) → s.testPlan p = s) ∧
    (plan.active = true → met →
      s.testPlan p = (maskBays plan.mask).foldl (fun t b => match (t.bayAt b).occupant with
        | none => t
        | some i => match t.record? i with
          | none => t
          | some r =>
            if plan.kind = .doorRound then (t.askItem ⟨r.tag, i, .door, .normal, .round p, t.clock.time⟩).1
            else if r.source = .diesel then (t.askItem ⟨r.tag, i, .fuel, .normal, .round p, t.clock.time⟩).1
            else t) (s.raise ⟨.absent, .roundMatch p⟩))) ∧
  (∀ mask : BitVec 8, (∀ b : BayAddr, b ∈ maskBays mask ↔ mask.getLsbD b.zone.val = true) ∧
    (maskBays mask).Pairwise fun a b => a.zone < b.zone ∨ (a.zone = b.zone ∧ a.bay < b.bay))

/-- A check item that is asked for merges into the one item of its trailer and kind, whose priority becomes the higher of the
two and nothing else of it changes; or is appended PENDING where the list holds fewer than 64; or is not made. Issue order lists
every check item once, URGENT before NORMAL and older created-at first, and keeps the order of addition among items that tie. -/
def Obligations.CheckListTakesAndOrders : Prop :=
  (∀ (q : CheckAsk) (s : State),
    (∀ before it after, s.checks = before ++ it :: after → it.isFor q.tag q.kind →
      (∀ x ∈ before ++ after, ¬ x.isFor q.tag q.kind) →
      s.tryAdd q = ({ s with checks := before ++ { it with
        priority := if it.priority = .urgent then .urgent else q.priority } :: after }, .merged)) ∧
    ((∀ x ∈ s.checks, ¬ x.isFor q.tag q.kind) → s.checks.length < 64 →
      ∃ x, s.tryAdd q = ({ s with checks := s.checks ++ [x], nextSerial := s.nextSerial + 1 }, .appended) ∧
        x.tag = q.tag ∧ x.record = q.record ∧ x.kind = q.kind ∧ x.priority = q.priority ∧ x.origin = q.origin ∧
        x.createdAt = q.createdAt ∧ x.state = .pending ∧ x.reissues = 0) ∧
    ((∀ x ∈ s.checks, ¬ x.isFor q.tag q.kind) → 64 ≤ s.checks.length → s.tryAdd q = (s, .refused))) ∧
  (∀ l : List CheckItem, (issueOrder l).Perm l ∧ (issueOrder l).Pairwise (fun a b => b.ahead a = false) ∧
    ∀ x : CheckItem, (issueOrder l).filter (fun a => !a.ahead x && !x.ahead a) =
      l.filter fun a => !a.ahead x && !x.ahead a)

/-- CHECK_ADD on a trailer with no item of the kind, on a list that is not full, appends an item of origin MANUAL and answers
DONE (appended). CHECK_CLOSE of a DOOR item as SECURE or AJAR removes it and changes nothing else, as DAMAGED raises
DOOR_DAMAGED, and of a FUEL item acts as FUEL_POST; each answers DONE. -/
def Obligations.ChecksAreAddedAndClosed : Prop :=
  ∀ (m : Master) (n : Subject) (t : Tag) (k : CheckKind) (pr : Priority) (level : Nat) (refuelled : Bool) (s s' : State)
    (res : Resolved) (r : TrailerRecord), s.ready m.port → s'.record? res.record = some r →
    (m = .ofc → n.inRange → (s.received m.port).resolvesTo m n s' res → (∀ x ∈ s.checks, ¬ x.isFor r.tag k) →
      s.checks.length < 64 →
      exec (.checkAdd m.port (Request.checkAdd n k pr).body) s =
        .next ({ s' with
          checks := s.checks ++ [(⟨r.tag, res.record, k, pr, .manual, .pending, s.clock.time, 0, s.nextSerial⟩ : CheckItem)]
          nextSerial := s.nextSerial + 1 }.answered m.port .checkAdd (.done (.added false)))) ∧
    ((m = .ofc ∨ (m = .pat ∧ res.rights.check = true)) → (s.received m.port).resolvesTo m (.tag t) s' res →
      ((∃ x ∈ s.checks, x.isFor t .door) →
        exec (.checkClose m.port (Request.checkClose t .secure).body) s =
          .next ({ s' with checks := s.checks.filter fun x => !x.isFor t .door }.answered m.port .checkClose
            (.done .nothing)) ∧
        exec (.checkClose m.port (Request.checkClose t .ajar).body) s =
          .next ({ s' with checks := s.checks.filter fun x => !x.isFor t .door }.answered m.port .checkClose
            (.done .nothing)) ∧
        exec (.checkClose m.port (Request.checkClose t .damaged).body) s =
          .next (({ s' with checks := s.checks.filter fun x => !x.isFor t .door }.raise
            ⟨.trailer r.tag r.bay res.record, .doorDamaged m⟩).answered m.port .checkClose (.done .nothing))) ∧
      ((∃ x ∈ s.checks, x.isFor t .fuel) → level ≤ 100 →
        exec (.checkClose m.port (Request.checkClose t (.fuel level refuelled)).body) s =
          .next (({ s' with checks := s.checks.filter fun x => !x.isFor t .fuel }.postFuel res.record level
            refuelled).answered m.port .checkClose (.done .nothing))))

/-- NEXT_CHECK is answered FULL while four items are ISSUED, and EMPTY while no item is PENDING. Otherwise the first PENDING
item in issue order, where its tag hits the cache with CHECK, is issued: it becomes ISSUED now with 0 seconds, the reply gives
it with the bay its trailer stands in, and no event is raised and no record changes. -/
def Obligations.NextCheckIssues : Prop :=
  ∀ (it : CheckItem) (s s' : State) (res : Resolved), s.ready .pat →
    (4 ≤ (s.checks.filter fun x => !x.isPending).length →
      exec (.nextCheck .pat []) s = .next ((s.received .pat).answered .pat .nextCheck .full)) ∧
    ((∀ x ∈ s.checks, x.isPending = false) → (s.checks.filter fun x => !x.isPending).length < 4 →
      exec (.nextCheck .pat []) s = .next ((s.received .pat).answered .pat .nextCheck (.empty .nothing))) ∧
    ((s.checks.filter fun x => !x.isPending).length < 4 →
      (issueOrder s.checks).find? CheckItem.isPending = some it →
      (s.received .pat).lookup (.master .pat) it.tag = (s', .found res) → res.rights.check = true →
      exec (.nextCheck .pat []) s =
        .next ({ s' with
          checks := s.checks.map fun (x : CheckItem) =>
            if x.serial = it.serial then { x with state := .issued s.clock.time 0 } else x }.answered .pat .nextCheck
          (.done (.issued { tag := it.tag, bay := res.bay, kind := it.kind, priority := it.priority, origin := it.origin,
                            createdAt := it.createdAt, reissues := it.reissues }))))

/-! ## Notices -/

/-- Raising an event gives each master its link entry names one offer of its notice, made with its subject, detail and the
yard time now, and gives the others nothing; it changes no record, no queue of another block and no clock. Where the link
entry's action is not NONE and the subject is a trailer, an URGENT item of the action's kind is then asked for, with the event
as origin. An item that is refused on a full list raises CHECK_LIST_FULL with its trailer, kind and origin, and one that a
CHECK_LIST_FULL itself asks for raises no further one. A notice offered to a queue of fewer than 16 joins its tail, with the
lost-before mark exactly where the lost marker stood, and clears the marker; at 16 it is dropped and the marker is set, and
nothing else changes. -/
def Obligations.EventReachesItsMasters : Prop :=
  (∀ (e : Event) (s : State), ∃ v : State, v = { s with desks := v.desks } ∧
    (∀ m, v.desk m =
      if s.links[e.detail.kind.index].notify.get m then
        (s.desk m).offer (s.settings.attention.get m) (e.notice s.clock.time)
      else s.desk m) ∧
    (s.links[e.detail.kind.index].action = .none ∨ (∀ t b i, e.subject ≠ .trailer t b i) → s.raise e = v) ∧
    (∀ t b i k, e.subject = .trailer t b i →
      (s.links[e.detail.kind.index].action, k) ∈ [(LinkAction.doorCheckUrgent, CheckKind.door), (.fuelCheckUrgent, .fuel)] →
      s.raise e =
        if e.detail.kind = .checkListFull then (v.tryAdd ⟨t, i, k, .urgent, .event .checkListFull, s.clock.time⟩).1
        else (v.askItem ⟨t, i, k, .urgent, .event e.detail.kind, s.clock.time⟩).1)) ∧
  (∀ (q : CheckAsk) (r : TrailerRecord) (s : State),
    ((s.tryAdd q).2 ≠ .refused → s.askItem q = s.tryAdd q) ∧
    ((s.tryAdd q).2 = .refused → s.record? q.record = some r →
      s.askItem q = (s.raise ⟨.trailer r.tag r.bay q.record, .checkListFull q.kind q.origin⟩, .refused))) ∧
  (∀ (mode : AttentionMode) (n : Notice) (d : Desk),
    (d.notices.length < 16 →
      (d.offer mode n).notices = d.notices ++ [{ n with lostBefore := d.lost }] ∧ (d.offer mode n).lost = false ∧
      (d.offer mode n).window = d.window ∧
      (mode = .level → (d.offer mode n).line = d.window.isNone) ∧
      (mode = .pulse → (d.offer mode n).line = (d.line || d.window.isNone))) ∧
    (16 ≤ d.notices.length → d.offer mode n = { d with lost := true }))

/-- FETCH_NOTICE takes the oldest notice of its master's own queue and gives it with the number left and the lost marker, DONE;
an empty queue is answered EMPTY with the same two. In LEVEL mode the line then follows the queue and the window; in PULSE mode
it stands. The still-present field of a fetched condition notice: GONE where its record is free or holds another tag, and
otherwise PRESENT or CLEARED as the condition of its kind holds of the record now. HOLD_NOTICES opens its master's window at 0
seconds and in LEVEL mode releases the line; RELEASE_NOTICES closes an open window, and the line is then asserted where notices
wait; with no window open it changes nothing. Each answers DONE. The end of a pulse releases the line of a master in PULSE
mode. -/
def Obligations.NoticesAreFetchedAndHeld : Prop :=
  (∀ (m : Master) (n : Notice) (rest : List Notice) (s : State), s.ready m.port →
    ((s.desk m).notices = [] →
      exec (.fetchNotice m.port []) s =
        .next ((s.received m.port).answered m.port .fetchNotice (.empty (.notice none 0 (s.desk m).lost)))) ∧
    ((s.desk m).notices = n :: rest →
      exec (.fetchNotice m.port []) s =
        .next (((s.received m.port).setDesk m
            { s.desk m with
              notices := rest
              line := match s.settings.attention.get m with
                | .level => decide (rest ≠ [] ∧ (s.desk m).window = none)
                | .pulse => (s.desk m).line }).answered m.port .fetchNotice
          (.done (.notice (some (s.fetched n)) rest.length (s.desk m).lost))))) ∧
  (∀ (n : Notice) (i : RecIdx) (s : State), n.record = some i →
    ((∀ r, s.record? i = some r → some r.tag ≠ n.tag) → s.stillPresent n = some .gone) ∧
    ∀ r, s.record? i = some r → some r.tag = n.tag →
      (n.detail.kind = .doorOpenLong →
        s.stillPresent n = some (if r.doorOpenSince.isSome then .present else .cleared)) ∧
      (n.detail.kind = .fuelLow → s.stillPresent n = some (if r.fuelLow then .present else .cleared)) ∧
      (n.detail.kind = .unitSilent → s.stillPresent n = some (if r.unitState = .stale then .present else .cleared)) ∧
      (n.detail.kind = .feederShort → (∃ e ∈ s.queue, e.record = i ∧ 4 ≤ e.passCount) →
        s.stillPresent n = some .present) ∧
      (n.detail.kind = .feederShort → (∀ e ∈ s.queue, e.record = i → e.passCount < 4) →
        s.stillPresent n = some .cleared)) ∧
  (∀ (m : Master) (s : State),
      (s.ready m.port →
        exec (.holdNotices m.port []) s =
          .next (((s.received m.port).setDesk m
              { s.desk m with
                window := some 0
                line := match s.settings.attention.get m with
                  | .level => false
                  | .pulse => (s.desk m).line }).answered m.port .holdNotices (.done .nothing)) ∧
        ((s.desk m).window = none →
          exec (.releaseNotices m.port []) s =
            .next ((s.received m.port).answered m.port .releaseNotices (.done .nothing))) ∧
        (∀ n, (s.desk m).window = some n →
          exec (.releaseNotices m.port []) s =
            .next (((s.received m.port).setDesk m
                { s.desk m with
                  window := none
                  line := match s.settings.attention.get m with
                    | .level => decide ((s.desk m).notices ≠ [])
                    | .pulse => (s.desk m).line || decide ((s.desk m).notices ≠ []) }).answered m.port .releaseNotices
              (.done .nothing)))) ∧
      (s.supply = .inService → s.due = [] → s.settings.attention.get m = .pulse →
        exec (.pulseEnd m) s = .next (s.setDesk m { s.desk m with line := false })))

/-! ## The second tick -/

/-- A second tick in service counts every count of the part once: the clock, each record's age, open door, fuel age, heating or
paused seconds, wait and seconds since sending, each ISSUED item's seconds, and each open window's; it changes nothing else but
what it brings about. -/
def Obligations.SecondTickCounts : Prop :=
  ∀ s : State, s.supply = .inService → s.due = [] →
    ∃ t : State, exec .secondTick s = .next t ∧
      t = { s with clock := s.clock.tick, records := t.records, checks := t.checks, desks := t.desks, due := t.due } ∧
      (∀ i, t.record? i = (s.record? i).map fun r =>
        { r with
          reportAge := if r.reportAge < 65535 then r.reportAge + 1 else r.reportAge
          doorOpenSince := r.doorOpenSince.map fun n => if n < 65535 then n + 1 else n
          fuelAge := if r.fuelRef = none then r.fuelAge else if r.fuelAge < 65535 then r.fuelAge + 1 else r.fuelAge
          run := r.run.map fun d =>
            if r.effective = .defrost then { d with heating := d.heating + 1 }
            else if r.holds .defrost then { d with paused := d.paused + 1 } else d
          notBefore := r.notBefore - 1
          slot := match r.slot with
            | .sent f => .sent { f with seconds := f.seconds + 1 }
            | .sentNext f c => .sentNext { f with seconds := f.seconds + 1 } c
            | other => other }) ∧
      t.checks = s.checks.map (fun it => { it with state := match it.state with
        | .issued at_ n => .issued at_ (n + 1)
        | .pending => .pending }) ∧
      ∀ m, t.desk m = { s.desk m with window := (s.desk m).window.map (· + 1) }

/-- What a second tick in service brings about, each exactly where its rule has it on that tick. That it is held as due until
it is taken, as its own command or before the next command, is the model's choice (log 2). -/
def Obligations.SecondTickBringsAbout : Prop :=
  ∀ (i : RecIdx) (k : CheckKind) (m : Master) (s t : State), s.supply = .inService → s.due = [] →
    exec .secondTick s = .next t →
    (.rollover ∈ t.due ↔ 59 ≤ s.clock.time.second) ∧
    (.silent i ∈ t.due ↔ ∃ r, s.record? i = some r ∧ r.reportAge = 599 ∧ r.unitState ≠ .stale) ∧
    (.doorLong i ∈ t.due ↔ ∃ r n, t.record? i = some r ∧ r.doorOpenSince = some n ∧
      s.zones[r.bay.zone].doorAlarm * 60 ≤ n ∧ r.alarmMark = false) ∧
    (.abandon i ∈ t.due ↔ ∃ r d, t.record? i = some r ∧ r.run = some d ∧ r.holds .defrost ∧ r.effective ≠ .defrost ∧
      s.zones[r.bay.zone].holdLimit * 60 ≤ d.paused) ∧
    (.timeOut i ∈ t.due ↔ ∃ r d, t.record? i = some r ∧ r.run = some d ∧ r.effective = .defrost ∧
      s.zones[r.bay.zone].defrostMax * 60 ≤ d.heating) ∧
    (.waitOver i ∈ t.due ↔ ∃ r, s.record? i = some r ∧ r.notBefore = 1) ∧
    (.unconfirmed i ∈ t.due ↔ ∃ r f, t.record? i = some r ∧ r.slot.flight = some f ∧ 90 ≤ f.seconds) ∧
    (.checkTimeout i k ∈ t.due ↔ ∃ it at_ n, it ∈ t.checks ∧ it.record = i ∧ it.kind = k ∧ it.state = .issued at_ n ∧
      s.settings.checkTimeout * 60 ≤ n) ∧
    (.windowOver m ∈ t.due ↔ ∃ n, (t.desk m).window = some n ∧ 60 ≤ n)

/-- The consequences of a tick that concern one record, taken where due (log 2): UNIT_SILENT makes the record STALE and is
raised with its last accepted sequence; DOOR_OPEN_LONG sets the alarm mark and is raised with the zone's alarm; CMD_UNCONFIRMED
is raised with the command in flight, which then leaves its slot; a paused defrost ends as ABANDONED, a running one as
TIMED_OUT, and a wait that has reached 0 sets the changed flag, and each of these three then runs a grant pass. -/
def Obligations.RecordConsequencesAct : Prop :=
  (∀ (i : RecIdx) (r : TrailerRecord) (s u : State), s.record? i = some r →
      (.silent i ∈ s.due → r.unitState ≠ .stale → u = { s with due := s.due.erase (.silent i) } →
        exec (.unitSilent i) s =
          .next ((u.setRecord i (some { r with unitState := .stale, changed := true })).raise
            ⟨.trailer r.tag r.bay i, .unitSilent r.lastSequence⟩)) ∧
      (.doorLong i ∈ s.due → u = { s with due := s.due.erase (.doorLong i) } →
        exec (.doorOpenLong i) s =
          .next ((u.setRecord i (some { r with alarmMark := true })).raise
            ⟨.trailer r.tag r.bay i, .doorOpenLong s.zones[r.bay.zone].doorAlarm⟩)) ∧
      (∀ f, .unconfirmed i ∈ s.due → r.slot = .sent f → u = { s with due := s.due.erase (.unconfirmed i) } →
        exec (.cmdUnconfirmed i) s =
          .next ((u.raise ⟨.trailer r.tag r.bay i, .cmdUnconfirmed f.command f.sequence f.sentAt⟩).setRecord i
            (some { r with slot := .empty, changed := true }))) ∧
      (∀ f c, .unconfirmed i ∈ s.due → r.slot = .sentNext f c → u = { s with due := s.due.erase (.unconfirmed i) } →
        exec (.cmdUnconfirmed i) s =
          .next { (u.raise ⟨.trailer r.tag r.bay i, .cmdUnconfirmed f.command f.sequence f.sentAt⟩).setRecord i
            (some { r with slot := .queued c, changed := true }) with downlink := s.downlink ++ [i] })) ∧
  (∀ (i : RecIdx) (r : TrailerRecord) (s u : State), s.record? i = some r →
      (.abandon i ∈ s.due → u = { s with due := s.due.erase (.abandon i) } →
        exec (.abandoned i) s = .next (u.endDefrost i .abandoned).grantPass) ∧
      (.timeOut i ∈ s.due → u = { s with due := s.due.erase (.timeOut i) } →
        exec (.timedOut i) s = .next (u.endDefrost i .timedOut).grantPass) ∧
      (.waitOver i ∈ s.due → u = { s with due := s.due.erase (.waitOver i) } →
        exec (.defrostNotBeforeZero i) s = .next (u.setRecord i (some { r with changed := true })).grantPass))

/-- The other consequences of a tick, taken where due (log 2): a minute rollover tests the plans, an ISSUED item that has run
its time is PENDING again with its reissue count raised up to 3, URGENT and escalated from 3 on, and a window that has run its
minute closes. -/
def Obligations.RoundConsequencesAct : Prop :=
  ∀ (s u : State),
    (.rollover ∈ s.due → u = { s with due := s.due.erase .rollover } → exec .minuteRollover s = .next u.testPlans) ∧
    (∀ i k it before after, .checkTimeout i k ∈ s.due → u = { s with due := s.due.erase (.checkTimeout i k) } →
      s.checks = before ++ it :: after → it.record = i → it.kind = k → it.isPending = false →
      (∀ x ∈ before ++ after, x.serial ≠ it.serial ∧ ¬ (x.record = i ∧ x.kind = k)) →
      (it.reissues < 2 →
        exec (.checkTimeout i k) s =
          .next { u with checks :=
            before ++ { it with state := .pending, reissues := it.reissues + 1 } :: after }) ∧
      (∀ r, it.reissues = 2 ∨ it.reissues = 3 → s.record? i = some r →
        exec (.checkTimeout i k) s =
          .next ({ u with checks :=
            before ++ { it with state := .pending, reissues := 3, priority := .urgent } :: after }.raise
              ⟨.trailer r.tag r.bay i, .checkEscalated k it.origin 3⟩))) ∧
    (∀ m n, .windowOver m ∈ s.due → u = { s with due := s.due.erase (.windowOver m) } → (s.desk m).window = some n →
      exec (.suppressionWindowExpiry m) s =
        .next (u.setDesk m
          { s.desk m with
            window := none
            line := match s.settings.attention.get m with
              | .level => decide ((s.desk m).notices ≠ [])
              | .pulse => (s.desk m).line || decide ((s.desk m).notices ≠ []) }))

/-! ## Supplies and restarts -/

/-- The part moves among its supply states as Table 11-1 gives, apart from its restarts. MFAIL asserted in service stops every
port, releases every attention line, and leaves nothing at the engine or in the Intake FIFO; a supply applied to an unpowered
part sets cold-pending; and the loss of both supplies leaves it unpowered. In STANDBY a second tick moves the Yard Clock alone,
and not even that while cold-pending is set; and out of service no frame is received. -/
def Obligations.SupplyMovesAndStands : Prop :=
  (∀ s : State, s.due = [] →
    (s.supply = .inService →
      ∃ t : State, exec .mfailAsserted s = .next t ∧
        t = { s with supply := .standby, ports := Ports.cold, engine := none, waitList := [], fifo := [], intake := .idle,
                     restartDue := false, desks := t.desks } ∧
        ∀ m, t.desk m = { s.desk m with line := false }) ∧
    (s.supply = .unpowered → exec .supplyApplied s = .next { s with supply := .standby, coldPending := true }) ∧
    ∃ t : State, exec .supplyLoss s = .next t ∧ t.supply = .unpowered ∧ t.pending = s.pending) ∧
  (∀ s : State, s.due = [] →
    (s.supply = .standby → s.coldPending = false → exec .secondTick s = .next { s with clock := s.clock.tick }) ∧
    (s.supply = .standby → s.coldPending = true → exec .secondTick s = .next s) ∧
    (s.supply ≠ .inService → ∀ (p : PortId) (kind : Byte) (body : List Byte), exec (frameCommand p kind body) s = .next s))

/-- A cold start ends STANDBY while cold-pending is set, and gives every zone, bay, record, plan, link entry, setting, feeder
and the clock its cold value, with nothing in any list or in the Tag Cache, every port FREE, and the mode the strap selects. -/
def Obligations.ColdStartValues : Prop :=
  ∀ (strap : Bool) (s : State), s.supply = .standby → s.coldPending = true → s.due = [] →
    ∃ t : State, exec (.mfailReleased strap) s = .next t ∧ t.supply = .inService ∧ t.coldPending = false ∧ t.cause = .cold ∧
      t.mode = (if strap then .commission else .yard) ∧ t.restartSeen = ⟨false, false, false⟩ ∧
      t.clock = ⟨⟨0, 1, 1, 0, 0, 0⟩, 1, false⟩ ∧ (∀ i, t.record? i = none) ∧
      (∀ b, t.bayAt b = ⟨none, ⟨true, true, true⟩, false⟩) ∧
      (∀ z : Fin 8, t.zones[z].isOpen = false ∧ t.zones[z].feeder.val = z.val % 4 ∧ t.zones[z].rights = ⟨true, true, true⟩ ∧
        t.zones[z].frostThreshold = 600 ∧ t.zones[z].defrostMax = 40 ∧ t.zones[z].terminationTemp = 100 ∧
        t.zones[z].holdLimit = 15 ∧ t.zones[z].doorAlarm = 20 ∧ t.zones[z].fuelMargin = 720 ∧ t.zones[z].fuelFloor = 15 ∧
        t.zones[z].defaultLoad = 60) ∧
      (∀ p : Fin 8, t.plans[p] = ⟨false, .doorRound, 0, .every 60⟩) ∧
      (∀ (k : Fin 4), t.cache[k].recency = [] ∧ ∀ w : Fin 4, t.cache[k].ways[w] = none) ∧
      t.links[EventKind.frostDemand.index] = ⟨⟨false, true, false⟩, .none⟩ ∧
      t.links[EventKind.defrostDone.index] = ⟨⟨true, true, false⟩, .none⟩ ∧
      t.links[EventKind.defrostStopped.index] = ⟨⟨true, true, false⟩, .none⟩ ∧
      t.links[EventKind.doorOpenLong.index] = ⟨⟨true, false, true⟩, .doorCheckUrgent⟩ ∧
      t.links[EventKind.doorDamaged.index] = ⟨⟨true, false, false⟩, .none⟩ ∧
      t.links[EventKind.fuelLow.index] = ⟨⟨true, false, true⟩, .fuelCheckUrgent⟩ ∧
      t.links[EventKind.refuelSeen.index] = ⟨⟨true, false, false⟩, .none⟩ ∧
      t.links[EventKind.unitSilent.index] = ⟨⟨true, false, true⟩, .doorCheckUrgent⟩ ∧
      t.links[EventKind.unknownUnit.index] = ⟨⟨true, false, false⟩, .none⟩ ∧
      t.links[EventKind.cmdUnconfirmed.index] = ⟨⟨true, false, false⟩, .none⟩ ∧
      t.links[EventKind.checkEscalated.index] = ⟨⟨true, false, false⟩, .none⟩ ∧
      t.links[EventKind.checkListFull.index] = ⟨⟨true, false, true⟩, .none⟩ ∧
      t.links[EventKind.roundMatch.index] = ⟨⟨false, false, true⟩, .none⟩ ∧
      t.links[EventKind.rightsRefusal.index] = ⟨⟨true, false, false⟩, .none⟩ ∧
      t.links[EventKind.intakeOverrun.index] = ⟨⟨true, false, false⟩, .none⟩ ∧
      t.links[EventKind.feederShort.index] = ⟨⟨true, true, false⟩, .none⟩ ∧
      t.settings = ⟨false, 80, 40, 30, ⟨.level, .level, .level⟩⟩ ∧ (∀ f : FeederNo, t.feeders[f] = ⟨0, 0⟩) ∧
      t.checks = [] ∧ t.queue = [] ∧ t.nextJoin = 1 ∧ t.grants = [] ∧ t.nextGrant = 1 ∧ t.downlink = [] ∧ t.fifo = [] ∧
      t.engine = none ∧ t.waitList = [] ∧ (∀ p, t.port p = ⟨.hunting, .free, none⟩) ∧
      (∀ m, t.desk m = ⟨[], false, none, false⟩) ∧ t.pending = s.pending

/-- A mains return keeps what backup RAM retains, the clock among it, clears the volatile state, gives every placed record its
restart values with DEFROST removed and the changed flag set where it was, returns every ISSUED item to PENDING, and rebuilds
the Defrost Queue from the records whose level meets their threshold with the cancel latch clear. -/
def Obligations.MainsReturnRestarts : Prop :=
  ∀ (strap : Bool) (s : State), s.supply = .standby → s.coldPending = false → s.due = [] →
    ∃ t : State, exec (.mfailReleased strap) s = .next t ∧
      t = { State.cold strap with
            zones := s.zones, bays := s.bays, clock := s.clock, plans := s.plans, links := s.links, settings := s.settings,
            nextSerial := s.nextSerial, pending := s.pending, cause := .mainsReturn, records := t.records,
            checks := t.checks, queue := t.queue, nextJoin := t.queue.length + 1 } ∧
      (∀ i, t.record? i = (s.record? i).map fun r =>
        { r with
          unitState := .awaiting, reportAge := 0, lastSequence := none, doorHistory := none, doorOpenSince := none
          alarmMark := false, fuelAge := 0
          threshold := r.thresholdOverride.getD s.zones[r.bay.zone].frostThreshold
          chain := r.chain.filter fun e => e.kind ≠ .defrost
          run := none, notBefore := 0, slot := .empty, sequence := 0, seen := false
          changed := r.changed || r.holds .defrost }) ∧
      t.checks = s.checks.map (fun it => { it with state := .pending }) ∧
      (∀ e ∈ t.queue, ∃ r, t.record? e.record = some r ∧ r.threshold ≤ r.level ∧ r.cancelLatch = false ∧
        e.excess = r.level - r.threshold ∧ e.manual = false ∧ e.passCount = 0) ∧
      (∀ i r, t.record? i = some r → r.threshold ≤ r.level → r.cancelLatch = false → ∃ e ∈ t.queue, e.record = i) ∧
      t.queue.Pairwise (fun a b => b.excess < a.excess ∨ (a.excess = b.excess ∧ a.record < b.record)) ∧
      t.queue.map QueueEntry.joinedAt = List.range' 1 t.queue.length

/-- The restart that follows the DONE to YARD_RESTART leaves what a mains return with the same strap would leave, with its own
cause; that one that is not due does nothing is the model's choice (log 13). Each restart records its cause, sets every
restart-seen flag to not seen and raises no event; the cause stands until the next restart, but that the loss of both supplies
writes it is the model's choice (log 19); and a master's STATUS_GET sets its own flag alone to seen. -/
def Obligations.YardRestartActsAndCausesStand : Prop :=
  (∀ (strap : Bool) (s : State), s.due = [] →
      (s.supply = .inService → s.restartDue = true →
        ∃ t, exec (.mfailReleased strap) { s with supply := .standby, coldPending := false } = .next t ∧
          exec (.restartAct strap) s = .next { t with cause := .yardRestart, coldPending := s.coldPending }) ∧
      (s.restartDue = false → exec (.restartAct strap) s = .next s)) ∧
  (∀ (strap : Bool) (s t : State), s.due = [] → exec (.mfailReleased strap) s = .next t → s.supply = .standby →
    t.cause = (if s.coldPending then .cold else .mainsReturn) ∧ t.restartSeen = ⟨false, false, false⟩ ∧
      ∀ m, (t.desk m).notices = []) ∧
  (∀ (strap : Bool) (s t : State), s.due = [] → exec (.restartAct strap) s = .next t → s.supply = .inService →
    s.restartDue = true →
    t.cause = .yardRestart ∧ t.restartSeen = ⟨false, false, false⟩ ∧ ∀ m, (t.desk m).notices = []) ∧
  (∀ (c : Instr) (s t : State), mayRestart c = false → exec c s = .next t → t.cause = s.cause) ∧
  ∀ (m : Master) (s : State), s.ready m.port →
    ∃ t : State, exec (.statusGet m.port []) s = .next t ∧ t.restartSeen = s.restartSeen.set m true

/-! ## Invariants -/

/-- At reset every invariant below holds. State.reset is the model's choice of a cold start that has acted (log 1). -/
def Obligations.ResetKeepsEveryInvariant : Prop :=
  State.reset.withinCapacity ∧ State.reset.chainsOk ∧ State.reset.mapOk ∧ State.reset.queueOk ∧ State.reset.feedersOk ∧
    State.reset.heldOk ∧ State.reset.estimatesOk ∧ State.reset.clock.ok ∧ State.reset.linesOk ∧ State.reset.quietOut ∧
    State.reset.cacheOk ∧ State.reset.searchesOk

/-- Every step keeps the Intake FIFO, the Notice Queues and the Check List within what they hold. -/
def Obligations.CapacityIsKept : Prop :=
  ∀ s t : State, s.withinCapacity → step s = .next t → t.withinCapacity

/-- Every step keeps every chain with COOL first, no kind twice and DEFROST directly above COOL, and run data present exactly
where the chain holds DEFROST. -/
def Obligations.ChainsAreKept : Prop :=
  ∀ s t : State, s.chainsOk → step s = .next t → t.chainsOk

/-- Every step keeps the Bay Maps and the pool in agreement, with no tag held by two placed records, every entry of the Tag
Cache in agreement with the map in tag, record and bay, and every lookup at the engine one that its caller waits for. -/
def Obligations.MapIsKept : Prop :=
  ∀ s t : State, s.mapOk → s.cacheOk → s.searchesOk → step s = .next t → t.mapOk ∧ t.cacheOk ∧ t.searchesOk

/-- Every step keeps each feeder's granted sum the sum of the loads granted on it and within its budget, one grant list item for
each record with run data, and no record at once queued and holding DEFROST. -/
def Obligations.BudgetsAreKept : Prop :=
  ∀ s t : State, s.chainsOk → s.queueOk → s.feedersOk → step s = .next t → t.queueOk ∧ t.feedersOk

/-- Every step keeps the accumulator, the fuel reference, the fuel age, the burn rate and the runway of every record in their
ranges. Every step keeps the Yard Clock a time of the calendar. -/
def Obligations.EstimatesAndClockAreKept : Prop :=
  (∀ s t : State, s.heldOk → s.estimatesOk → step s = .next t → t.heldOk ∧ t.estimatesOk) ∧
  (∀ s t : State, s.clock.ok → step s = .next t → t.clock.ok)

/-- Every step keeps, in service, the line of each master in LEVEL mode asserted exactly while notices wait and no window is
open. Every step keeps a part that is out of service silent: no frame, report, search or consequence of a tick is in it, and
every attention line is released. -/
def Obligations.LinesAndSilenceAreKept : Prop :=
  (∀ s t : State, s.linesOk → step s = .next t → t.linesOk) ∧
  (∀ s t : State, s.quietOut → step s = .next t → t.quietOut)
end

