-- ==== Sys2Proof/Laws/State.lean ====
section
/-! SUPPORT. What each write of Ops leaves in each field of State, and what each read gives after each write. -/

namespace Sys2Proof.Machine

open Sys2Proof

variable (s : State)

/-! ## `State.setRecord` -/

@[simp] theorem State.setRecord_zones (i : RecIdx) (r : Option TrailerRecord) : (s.setRecord i r).zones = s.zones := rfl
@[simp] theorem State.setRecord_bays (i : RecIdx) (r : Option TrailerRecord) : (s.setRecord i r).bays = s.bays := rfl
@[simp] theorem State.setRecord_cache (i : RecIdx) (r : Option TrailerRecord) : (s.setRecord i r).cache = s.cache := rfl
@[simp] theorem State.setRecord_engine (i : RecIdx) (r : Option TrailerRecord) : (s.setRecord i r).engine = s.engine := rfl
@[simp] theorem State.setRecord_waitList (i : RecIdx) (r : Option TrailerRecord) : (s.setRecord i r).waitList = s.waitList := rfl
@[simp] theorem State.setRecord_fifo (i : RecIdx) (r : Option TrailerRecord) : (s.setRecord i r).fifo = s.fifo := rfl
@[simp] theorem State.setRecord_intake (i : RecIdx) (r : Option TrailerRecord) : (s.setRecord i r).intake = s.intake := rfl
@[simp] theorem State.setRecord_feeders (i : RecIdx) (r : Option TrailerRecord) : (s.setRecord i r).feeders = s.feeders := rfl
@[simp] theorem State.setRecord_queue (i : RecIdx) (r : Option TrailerRecord) : (s.setRecord i r).queue = s.queue := rfl
@[simp] theorem State.setRecord_nextJoin (i : RecIdx) (r : Option TrailerRecord) : (s.setRecord i r).nextJoin = s.nextJoin := rfl
@[simp] theorem State.setRecord_grants (i : RecIdx) (r : Option TrailerRecord) : (s.setRecord i r).grants = s.grants := rfl
@[simp] theorem State.setRecord_nextGrant (i : RecIdx) (r : Option TrailerRecord) : (s.setRecord i r).nextGrant = s.nextGrant := rfl
@[simp] theorem State.setRecord_downlink (i : RecIdx) (r : Option TrailerRecord) : (s.setRecord i r).downlink = s.downlink := rfl
@[simp] theorem State.setRecord_clock (i : RecIdx) (r : Option TrailerRecord) : (s.setRecord i r).clock = s.clock := rfl
@[simp] theorem State.setRecord_plans (i : RecIdx) (r : Option TrailerRecord) : (s.setRecord i r).plans = s.plans := rfl
@[simp] theorem State.setRecord_checks (i : RecIdx) (r : Option TrailerRecord) : (s.setRecord i r).checks = s.checks := rfl
@[simp] theorem State.setRecord_nextSerial (i : RecIdx) (r : Option TrailerRecord) : (s.setRecord i r).nextSerial = s.nextSerial := rfl
@[simp] theorem State.setRecord_links (i : RecIdx) (r : Option TrailerRecord) : (s.setRecord i r).links = s.links := rfl
@[simp] theorem State.setRecord_desks (i : RecIdx) (r : Option TrailerRecord) : (s.setRecord i r).desks = s.desks := rfl
@[simp] theorem State.setRecord_settings (i : RecIdx) (r : Option TrailerRecord) : (s.setRecord i r).settings = s.settings := rfl
@[simp] theorem State.setRecord_ports (i : RecIdx) (r : Option TrailerRecord) : (s.setRecord i r).ports = s.ports := rfl
@[simp] theorem State.setRecord_supply (i : RecIdx) (r : Option TrailerRecord) : (s.setRecord i r).supply = s.supply := rfl
@[simp] theorem State.setRecord_coldPending (i : RecIdx) (r : Option TrailerRecord) : (s.setRecord i r).coldPending = s.coldPending := rfl
@[simp] theorem State.setRecord_mode (i : RecIdx) (r : Option TrailerRecord) : (s.setRecord i r).mode = s.mode := rfl
@[simp] theorem State.setRecord_cause (i : RecIdx) (r : Option TrailerRecord) : (s.setRecord i r).cause = s.cause := rfl
@[simp] theorem State.setRecord_restartSeen (i : RecIdx) (r : Option TrailerRecord) : (s.setRecord i r).restartSeen = s.restartSeen := rfl
@[simp] theorem State.setRecord_restartDue (i : RecIdx) (r : Option TrailerRecord) : (s.setRecord i r).restartDue = s.restartDue := rfl
@[simp] theorem State.setRecord_due (i : RecIdx) (r : Option TrailerRecord) : (s.setRecord i r).due = s.due := rfl
@[simp] theorem State.setRecord_pending (i : RecIdx) (r : Option TrailerRecord) : (s.setRecord i r).pending = s.pending := rfl

/-! ## `State.setBay` -/

@[simp] theorem State.setBay_zones (b : BayAddr) (e : BayEntry) : (s.setBay b e).zones = s.zones := rfl
@[simp] theorem State.setBay_records (b : BayAddr) (e : BayEntry) : (s.setBay b e).records = s.records := rfl
@[simp] theorem State.setBay_cache (b : BayAddr) (e : BayEntry) : (s.setBay b e).cache = s.cache := rfl
@[simp] theorem State.setBay_engine (b : BayAddr) (e : BayEntry) : (s.setBay b e).engine = s.engine := rfl
@[simp] theorem State.setBay_waitList (b : BayAddr) (e : BayEntry) : (s.setBay b e).waitList = s.waitList := rfl
@[simp] theorem State.setBay_fifo (b : BayAddr) (e : BayEntry) : (s.setBay b e).fifo = s.fifo := rfl
@[simp] theorem State.setBay_intake (b : BayAddr) (e : BayEntry) : (s.setBay b e).intake = s.intake := rfl
@[simp] theorem State.setBay_feeders (b : BayAddr) (e : BayEntry) : (s.setBay b e).feeders = s.feeders := rfl
@[simp] theorem State.setBay_queue (b : BayAddr) (e : BayEntry) : (s.setBay b e).queue = s.queue := rfl
@[simp] theorem State.setBay_nextJoin (b : BayAddr) (e : BayEntry) : (s.setBay b e).nextJoin = s.nextJoin := rfl
@[simp] theorem State.setBay_grants (b : BayAddr) (e : BayEntry) : (s.setBay b e).grants = s.grants := rfl
@[simp] theorem State.setBay_nextGrant (b : BayAddr) (e : BayEntry) : (s.setBay b e).nextGrant = s.nextGrant := rfl
@[simp] theorem State.setBay_downlink (b : BayAddr) (e : BayEntry) : (s.setBay b e).downlink = s.downlink := rfl
@[simp] theorem State.setBay_clock (b : BayAddr) (e : BayEntry) : (s.setBay b e).clock = s.clock := rfl
@[simp] theorem State.setBay_plans (b : BayAddr) (e : BayEntry) : (s.setBay b e).plans = s.plans := rfl
@[simp] theorem State.setBay_checks (b : BayAddr) (e : BayEntry) : (s.setBay b e).checks = s.checks := rfl
@[simp] theorem State.setBay_nextSerial (b : BayAddr) (e : BayEntry) : (s.setBay b e).nextSerial = s.nextSerial := rfl
@[simp] theorem State.setBay_links (b : BayAddr) (e : BayEntry) : (s.setBay b e).links = s.links := rfl
@[simp] theorem State.setBay_desks (b : BayAddr) (e : BayEntry) : (s.setBay b e).desks = s.desks := rfl
@[simp] theorem State.setBay_settings (b : BayAddr) (e : BayEntry) : (s.setBay b e).settings = s.settings := rfl
@[simp] theorem State.setBay_ports (b : BayAddr) (e : BayEntry) : (s.setBay b e).ports = s.ports := rfl
@[simp] theorem State.setBay_supply (b : BayAddr) (e : BayEntry) : (s.setBay b e).supply = s.supply := rfl
@[simp] theorem State.setBay_coldPending (b : BayAddr) (e : BayEntry) : (s.setBay b e).coldPending = s.coldPending := rfl
@[simp] theorem State.setBay_mode (b : BayAddr) (e : BayEntry) : (s.setBay b e).mode = s.mode := rfl
@[simp] theorem State.setBay_cause (b : BayAddr) (e : BayEntry) : (s.setBay b e).cause = s.cause := rfl
@[simp] theorem State.setBay_restartSeen (b : BayAddr) (e : BayEntry) : (s.setBay b e).restartSeen = s.restartSeen := rfl
@[simp] theorem State.setBay_restartDue (b : BayAddr) (e : BayEntry) : (s.setBay b e).restartDue = s.restartDue := rfl
@[simp] theorem State.setBay_due (b : BayAddr) (e : BayEntry) : (s.setBay b e).due = s.due := rfl
@[simp] theorem State.setBay_pending (b : BayAddr) (e : BayEntry) : (s.setBay b e).pending = s.pending := rfl

/-! ## `State.setFeeder` -/

@[simp] theorem State.setFeeder_zones (f : FeederNo) (x : Feeder) : (s.setFeeder f x).zones = s.zones := rfl
@[simp] theorem State.setFeeder_bays (f : FeederNo) (x : Feeder) : (s.setFeeder f x).bays = s.bays := rfl
@[simp] theorem State.setFeeder_records (f : FeederNo) (x : Feeder) : (s.setFeeder f x).records = s.records := rfl
@[simp] theorem State.setFeeder_cache (f : FeederNo) (x : Feeder) : (s.setFeeder f x).cache = s.cache := rfl
@[simp] theorem State.setFeeder_engine (f : FeederNo) (x : Feeder) : (s.setFeeder f x).engine = s.engine := rfl
@[simp] theorem State.setFeeder_waitList (f : FeederNo) (x : Feeder) : (s.setFeeder f x).waitList = s.waitList := rfl
@[simp] theorem State.setFeeder_fifo (f : FeederNo) (x : Feeder) : (s.setFeeder f x).fifo = s.fifo := rfl
@[simp] theorem State.setFeeder_intake (f : FeederNo) (x : Feeder) : (s.setFeeder f x).intake = s.intake := rfl
@[simp] theorem State.setFeeder_queue (f : FeederNo) (x : Feeder) : (s.setFeeder f x).queue = s.queue := rfl
@[simp] theorem State.setFeeder_nextJoin (f : FeederNo) (x : Feeder) : (s.setFeeder f x).nextJoin = s.nextJoin := rfl
@[simp] theorem State.setFeeder_grants (f : FeederNo) (x : Feeder) : (s.setFeeder f x).grants = s.grants := rfl
@[simp] theorem State.setFeeder_nextGrant (f : FeederNo) (x : Feeder) : (s.setFeeder f x).nextGrant = s.nextGrant := rfl
@[simp] theorem State.setFeeder_downlink (f : FeederNo) (x : Feeder) : (s.setFeeder f x).downlink = s.downlink := rfl
@[simp] theorem State.setFeeder_clock (f : FeederNo) (x : Feeder) : (s.setFeeder f x).clock = s.clock := rfl
@[simp] theorem State.setFeeder_plans (f : FeederNo) (x : Feeder) : (s.setFeeder f x).plans = s.plans := rfl
@[simp] theorem State.setFeeder_checks (f : FeederNo) (x : Feeder) : (s.setFeeder f x).checks = s.checks := rfl
@[simp] theorem State.setFeeder_nextSerial (f : FeederNo) (x : Feeder) : (s.setFeeder f x).nextSerial = s.nextSerial := rfl
@[simp] theorem State.setFeeder_links (f : FeederNo) (x : Feeder) : (s.setFeeder f x).links = s.links := rfl
@[simp] theorem State.setFeeder_desks (f : FeederNo) (x : Feeder) : (s.setFeeder f x).desks = s.desks := rfl
@[simp] theorem State.setFeeder_settings (f : FeederNo) (x : Feeder) : (s.setFeeder f x).settings = s.settings := rfl
@[simp] theorem State.setFeeder_ports (f : FeederNo) (x : Feeder) : (s.setFeeder f x).ports = s.ports := rfl
@[simp] theorem State.setFeeder_supply (f : FeederNo) (x : Feeder) : (s.setFeeder f x).supply = s.supply := rfl
@[simp] theorem State.setFeeder_coldPending (f : FeederNo) (x : Feeder) : (s.setFeeder f x).coldPending = s.coldPending := rfl
@[simp] theorem State.setFeeder_mode (f : FeederNo) (x : Feeder) : (s.setFeeder f x).mode = s.mode := rfl
@[simp] theorem State.setFeeder_cause (f : FeederNo) (x : Feeder) : (s.setFeeder f x).cause = s.cause := rfl
@[simp] theorem State.setFeeder_restartSeen (f : FeederNo) (x : Feeder) : (s.setFeeder f x).restartSeen = s.restartSeen := rfl
@[simp] theorem State.setFeeder_restartDue (f : FeederNo) (x : Feeder) : (s.setFeeder f x).restartDue = s.restartDue := rfl
@[simp] theorem State.setFeeder_due (f : FeederNo) (x : Feeder) : (s.setFeeder f x).due = s.due := rfl
@[simp] theorem State.setFeeder_pending (f : FeederNo) (x : Feeder) : (s.setFeeder f x).pending = s.pending := rfl

/-! ## `State.setDesk` -/

@[simp] theorem State.setDesk_zones (m : Master) (d : Desk) : (s.setDesk m d).zones = s.zones := rfl
@[simp] theorem State.setDesk_bays (m : Master) (d : Desk) : (s.setDesk m d).bays = s.bays := rfl
@[simp] theorem State.setDesk_records (m : Master) (d : Desk) : (s.setDesk m d).records = s.records := rfl
@[simp] theorem State.setDesk_cache (m : Master) (d : Desk) : (s.setDesk m d).cache = s.cache := rfl
@[simp] theorem State.setDesk_engine (m : Master) (d : Desk) : (s.setDesk m d).engine = s.engine := rfl
@[simp] theorem State.setDesk_waitList (m : Master) (d : Desk) : (s.setDesk m d).waitList = s.waitList := rfl
@[simp] theorem State.setDesk_fifo (m : Master) (d : Desk) : (s.setDesk m d).fifo = s.fifo := rfl
@[simp] theorem State.setDesk_intake (m : Master) (d : Desk) : (s.setDesk m d).intake = s.intake := rfl
@[simp] theorem State.setDesk_feeders (m : Master) (d : Desk) : (s.setDesk m d).feeders = s.feeders := rfl
@[simp] theorem State.setDesk_queue (m : Master) (d : Desk) : (s.setDesk m d).queue = s.queue := rfl
@[simp] theorem State.setDesk_nextJoin (m : Master) (d : Desk) : (s.setDesk m d).nextJoin = s.nextJoin := rfl
@[simp] theorem State.setDesk_grants (m : Master) (d : Desk) : (s.setDesk m d).grants = s.grants := rfl
@[simp] theorem State.setDesk_nextGrant (m : Master) (d : Desk) : (s.setDesk m d).nextGrant = s.nextGrant := rfl
@[simp] theorem State.setDesk_downlink (m : Master) (d : Desk) : (s.setDesk m d).downlink = s.downlink := rfl
@[simp] theorem State.setDesk_clock (m : Master) (d : Desk) : (s.setDesk m d).clock = s.clock := rfl
@[simp] theorem State.setDesk_plans (m : Master) (d : Desk) : (s.setDesk m d).plans = s.plans := rfl
@[simp] theorem State.setDesk_checks (m : Master) (d : Desk) : (s.setDesk m d).checks = s.checks := rfl
@[simp] theorem State.setDesk_nextSerial (m : Master) (d : Desk) : (s.setDesk m d).nextSerial = s.nextSerial := rfl
@[simp] theorem State.setDesk_links (m : Master) (d : Desk) : (s.setDesk m d).links = s.links := rfl
@[simp] theorem State.setDesk_settings (m : Master) (d : Desk) : (s.setDesk m d).settings = s.settings := rfl
@[simp] theorem State.setDesk_ports (m : Master) (d : Desk) : (s.setDesk m d).ports = s.ports := rfl
@[simp] theorem State.setDesk_supply (m : Master) (d : Desk) : (s.setDesk m d).supply = s.supply := rfl
@[simp] theorem State.setDesk_coldPending (m : Master) (d : Desk) : (s.setDesk m d).coldPending = s.coldPending := rfl
@[simp] theorem State.setDesk_mode (m : Master) (d : Desk) : (s.setDesk m d).mode = s.mode := rfl
@[simp] theorem State.setDesk_cause (m : Master) (d : Desk) : (s.setDesk m d).cause = s.cause := rfl
@[simp] theorem State.setDesk_restartSeen (m : Master) (d : Desk) : (s.setDesk m d).restartSeen = s.restartSeen := rfl
@[simp] theorem State.setDesk_restartDue (m : Master) (d : Desk) : (s.setDesk m d).restartDue = s.restartDue := rfl
@[simp] theorem State.setDesk_due (m : Master) (d : Desk) : (s.setDesk m d).due = s.due := rfl
@[simp] theorem State.setDesk_pending (m : Master) (d : Desk) : (s.setDesk m d).pending = s.pending := rfl

/-! ## `State.setPort` -/

@[simp] theorem State.setPort_zones (p : PortId) (x : Port) : (s.setPort p x).zones = s.zones := rfl
@[simp] theorem State.setPort_bays (p : PortId) (x : Port) : (s.setPort p x).bays = s.bays := rfl
@[simp] theorem State.setPort_records (p : PortId) (x : Port) : (s.setPort p x).records = s.records := rfl
@[simp] theorem State.setPort_cache (p : PortId) (x : Port) : (s.setPort p x).cache = s.cache := rfl
@[simp] theorem State.setPort_engine (p : PortId) (x : Port) : (s.setPort p x).engine = s.engine := rfl
@[simp] theorem State.setPort_waitList (p : PortId) (x : Port) : (s.setPort p x).waitList = s.waitList := rfl
@[simp] theorem State.setPort_fifo (p : PortId) (x : Port) : (s.setPort p x).fifo = s.fifo := rfl
@[simp] theorem State.setPort_intake (p : PortId) (x : Port) : (s.setPort p x).intake = s.intake := rfl
@[simp] theorem State.setPort_feeders (p : PortId) (x : Port) : (s.setPort p x).feeders = s.feeders := rfl
@[simp] theorem State.setPort_queue (p : PortId) (x : Port) : (s.setPort p x).queue = s.queue := rfl
@[simp] theorem State.setPort_nextJoin (p : PortId) (x : Port) : (s.setPort p x).nextJoin = s.nextJoin := rfl
@[simp] theorem State.setPort_grants (p : PortId) (x : Port) : (s.setPort p x).grants = s.grants := rfl
@[simp] theorem State.setPort_nextGrant (p : PortId) (x : Port) : (s.setPort p x).nextGrant = s.nextGrant := rfl
@[simp] theorem State.setPort_downlink (p : PortId) (x : Port) : (s.setPort p x).downlink = s.downlink := rfl
@[simp] theorem State.setPort_clock (p : PortId) (x : Port) : (s.setPort p x).clock = s.clock := rfl
@[simp] theorem State.setPort_plans (p : PortId) (x : Port) : (s.setPort p x).plans = s.plans := rfl
@[simp] theorem State.setPort_checks (p : PortId) (x : Port) : (s.setPort p x).checks = s.checks := rfl
@[simp] theorem State.setPort_nextSerial (p : PortId) (x : Port) : (s.setPort p x).nextSerial = s.nextSerial := rfl
@[simp] theorem State.setPort_links (p : PortId) (x : Port) : (s.setPort p x).links = s.links := rfl
@[simp] theorem State.setPort_desks (p : PortId) (x : Port) : (s.setPort p x).desks = s.desks := rfl
@[simp] theorem State.setPort_settings (p : PortId) (x : Port) : (s.setPort p x).settings = s.settings := rfl
@[simp] theorem State.setPort_supply (p : PortId) (x : Port) : (s.setPort p x).supply = s.supply := rfl
@[simp] theorem State.setPort_coldPending (p : PortId) (x : Port) : (s.setPort p x).coldPending = s.coldPending := rfl
@[simp] theorem State.setPort_mode (p : PortId) (x : Port) : (s.setPort p x).mode = s.mode := rfl
@[simp] theorem State.setPort_cause (p : PortId) (x : Port) : (s.setPort p x).cause = s.cause := rfl
@[simp] theorem State.setPort_restartSeen (p : PortId) (x : Port) : (s.setPort p x).restartSeen = s.restartSeen := rfl
@[simp] theorem State.setPort_restartDue (p : PortId) (x : Port) : (s.setPort p x).restartDue = s.restartDue := rfl
@[simp] theorem State.setPort_due (p : PortId) (x : Port) : (s.setPort p x).due = s.due := rfl
@[simp] theorem State.setPort_pending (p : PortId) (x : Port) : (s.setPort p x).pending = s.pending := rfl

/-! ## `State.setActivity` -/

@[simp] theorem State.setActivity_zones (p : PortId) (a : PortActivity) : (s.setActivity p a).zones = s.zones := rfl
@[simp] theorem State.setActivity_bays (p : PortId) (a : PortActivity) : (s.setActivity p a).bays = s.bays := rfl
@[simp] theorem State.setActivity_records (p : PortId) (a : PortActivity) : (s.setActivity p a).records = s.records := rfl
@[simp] theorem State.setActivity_cache (p : PortId) (a : PortActivity) : (s.setActivity p a).cache = s.cache := rfl
@[simp] theorem State.setActivity_engine (p : PortId) (a : PortActivity) : (s.setActivity p a).engine = s.engine := rfl
@[simp] theorem State.setActivity_waitList (p : PortId) (a : PortActivity) : (s.setActivity p a).waitList = s.waitList := rfl
@[simp] theorem State.setActivity_fifo (p : PortId) (a : PortActivity) : (s.setActivity p a).fifo = s.fifo := rfl
@[simp] theorem State.setActivity_intake (p : PortId) (a : PortActivity) : (s.setActivity p a).intake = s.intake := rfl
@[simp] theorem State.setActivity_feeders (p : PortId) (a : PortActivity) : (s.setActivity p a).feeders = s.feeders := rfl
@[simp] theorem State.setActivity_queue (p : PortId) (a : PortActivity) : (s.setActivity p a).queue = s.queue := rfl
@[simp] theorem State.setActivity_nextJoin (p : PortId) (a : PortActivity) : (s.setActivity p a).nextJoin = s.nextJoin := rfl
@[simp] theorem State.setActivity_grants (p : PortId) (a : PortActivity) : (s.setActivity p a).grants = s.grants := rfl
@[simp] theorem State.setActivity_nextGrant (p : PortId) (a : PortActivity) : (s.setActivity p a).nextGrant = s.nextGrant := rfl
@[simp] theorem State.setActivity_downlink (p : PortId) (a : PortActivity) : (s.setActivity p a).downlink = s.downlink := rfl
@[simp] theorem State.setActivity_clock (p : PortId) (a : PortActivity) : (s.setActivity p a).clock = s.clock := rfl
@[simp] theorem State.setActivity_plans (p : PortId) (a : PortActivity) : (s.setActivity p a).plans = s.plans := rfl
@[simp] theorem State.setActivity_checks (p : PortId) (a : PortActivity) : (s.setActivity p a).checks = s.checks := rfl
@[simp] theorem State.setActivity_nextSerial (p : PortId) (a : PortActivity) : (s.setActivity p a).nextSerial = s.nextSerial := rfl
@[simp] theorem State.setActivity_links (p : PortId) (a : PortActivity) : (s.setActivity p a).links = s.links := rfl
@[simp] theorem State.setActivity_desks (p : PortId) (a : PortActivity) : (s.setActivity p a).desks = s.desks := rfl
@[simp] theorem State.setActivity_settings (p : PortId) (a : PortActivity) : (s.setActivity p a).settings = s.settings := rfl
@[simp] theorem State.setActivity_supply (p : PortId) (a : PortActivity) : (s.setActivity p a).supply = s.supply := rfl
@[simp] theorem State.setActivity_coldPending (p : PortId) (a : PortActivity) : (s.setActivity p a).coldPending = s.coldPending := rfl
@[simp] theorem State.setActivity_mode (p : PortId) (a : PortActivity) : (s.setActivity p a).mode = s.mode := rfl
@[simp] theorem State.setActivity_cause (p : PortId) (a : PortActivity) : (s.setActivity p a).cause = s.cause := rfl
@[simp] theorem State.setActivity_restartSeen (p : PortId) (a : PortActivity) : (s.setActivity p a).restartSeen = s.restartSeen := rfl
@[simp] theorem State.setActivity_restartDue (p : PortId) (a : PortActivity) : (s.setActivity p a).restartDue = s.restartDue := rfl
@[simp] theorem State.setActivity_due (p : PortId) (a : PortActivity) : (s.setActivity p a).due = s.due := rfl
@[simp] theorem State.setActivity_pending (p : PortId) (a : PortActivity) : (s.setActivity p a).pending = s.pending := rfl

/-! ## `State.setCacheSet` -/

@[simp] theorem State.setCacheSet_zones (k : Fin 4) (c : CacheSet) : (s.setCacheSet k c).zones = s.zones := rfl
@[simp] theorem State.setCacheSet_bays (k : Fin 4) (c : CacheSet) : (s.setCacheSet k c).bays = s.bays := rfl
@[simp] theorem State.setCacheSet_records (k : Fin 4) (c : CacheSet) : (s.setCacheSet k c).records = s.records := rfl
@[simp] theorem State.setCacheSet_engine (k : Fin 4) (c : CacheSet) : (s.setCacheSet k c).engine = s.engine := rfl
@[simp] theorem State.setCacheSet_waitList (k : Fin 4) (c : CacheSet) : (s.setCacheSet k c).waitList = s.waitList := rfl
@[simp] theorem State.setCacheSet_fifo (k : Fin 4) (c : CacheSet) : (s.setCacheSet k c).fifo = s.fifo := rfl
@[simp] theorem State.setCacheSet_intake (k : Fin 4) (c : CacheSet) : (s.setCacheSet k c).intake = s.intake := rfl
@[simp] theorem State.setCacheSet_feeders (k : Fin 4) (c : CacheSet) : (s.setCacheSet k c).feeders = s.feeders := rfl
@[simp] theorem State.setCacheSet_queue (k : Fin 4) (c : CacheSet) : (s.setCacheSet k c).queue = s.queue := rfl
@[simp] theorem State.setCacheSet_nextJoin (k : Fin 4) (c : CacheSet) : (s.setCacheSet k c).nextJoin = s.nextJoin := rfl
@[simp] theorem State.setCacheSet_grants (k : Fin 4) (c : CacheSet) : (s.setCacheSet k c).grants = s.grants := rfl
@[simp] theorem State.setCacheSet_nextGrant (k : Fin 4) (c : CacheSet) : (s.setCacheSet k c).nextGrant = s.nextGrant := rfl
@[simp] theorem State.setCacheSet_downlink (k : Fin 4) (c : CacheSet) : (s.setCacheSet k c).downlink = s.downlink := rfl
@[simp] theorem State.setCacheSet_clock (k : Fin 4) (c : CacheSet) : (s.setCacheSet k c).clock = s.clock := rfl
@[simp] theorem State.setCacheSet_plans (k : Fin 4) (c : CacheSet) : (s.setCacheSet k c).plans = s.plans := rfl
@[simp] theorem State.setCacheSet_checks (k : Fin 4) (c : CacheSet) : (s.setCacheSet k c).checks = s.checks := rfl
@[simp] theorem State.setCacheSet_nextSerial (k : Fin 4) (c : CacheSet) : (s.setCacheSet k c).nextSerial = s.nextSerial := rfl
@[simp] theorem State.setCacheSet_links (k : Fin 4) (c : CacheSet) : (s.setCacheSet k c).links = s.links := rfl
@[simp] theorem State.setCacheSet_desks (k : Fin 4) (c : CacheSet) : (s.setCacheSet k c).desks = s.desks := rfl
@[simp] theorem State.setCacheSet_settings (k : Fin 4) (c : CacheSet) : (s.setCacheSet k c).settings = s.settings := rfl
@[simp] theorem State.setCacheSet_ports (k : Fin 4) (c : CacheSet) : (s.setCacheSet k c).ports = s.ports := rfl
@[simp] theorem State.setCacheSet_supply (k : Fin 4) (c : CacheSet) : (s.setCacheSet k c).supply = s.supply := rfl
@[simp] theorem State.setCacheSet_coldPending (k : Fin 4) (c : CacheSet) : (s.setCacheSet k c).coldPending = s.coldPending := rfl
@[simp] theorem State.setCacheSet_mode (k : Fin 4) (c : CacheSet) : (s.setCacheSet k c).mode = s.mode := rfl
@[simp] theorem State.setCacheSet_cause (k : Fin 4) (c : CacheSet) : (s.setCacheSet k c).cause = s.cause := rfl
@[simp] theorem State.setCacheSet_restartSeen (k : Fin 4) (c : CacheSet) : (s.setCacheSet k c).restartSeen = s.restartSeen := rfl
@[simp] theorem State.setCacheSet_restartDue (k : Fin 4) (c : CacheSet) : (s.setCacheSet k c).restartDue = s.restartDue := rfl
@[simp] theorem State.setCacheSet_due (k : Fin 4) (c : CacheSet) : (s.setCacheSet k c).due = s.due := rfl
@[simp] theorem State.setCacheSet_pending (k : Fin 4) (c : CacheSet) : (s.setCacheSet k c).pending = s.pending := rfl

/-! ## `State.received` -/

@[simp] theorem State.received_zones (p : PortId) : (s.received p).zones = s.zones := rfl
@[simp] theorem State.received_bays (p : PortId) : (s.received p).bays = s.bays := rfl
@[simp] theorem State.received_records (p : PortId) : (s.received p).records = s.records := rfl
@[simp] theorem State.received_cache (p : PortId) : (s.received p).cache = s.cache := rfl
@[simp] theorem State.received_engine (p : PortId) : (s.received p).engine = s.engine := rfl
@[simp] theorem State.received_waitList (p : PortId) : (s.received p).waitList = s.waitList := rfl
@[simp] theorem State.received_fifo (p : PortId) : (s.received p).fifo = s.fifo := rfl
@[simp] theorem State.received_intake (p : PortId) : (s.received p).intake = s.intake := rfl
@[simp] theorem State.received_feeders (p : PortId) : (s.received p).feeders = s.feeders := rfl
@[simp] theorem State.received_queue (p : PortId) : (s.received p).queue = s.queue := rfl
@[simp] theorem State.received_nextJoin (p : PortId) : (s.received p).nextJoin = s.nextJoin := rfl
@[simp] theorem State.received_grants (p : PortId) : (s.received p).grants = s.grants := rfl
@[simp] theorem State.received_nextGrant (p : PortId) : (s.received p).nextGrant = s.nextGrant := rfl
@[simp] theorem State.received_downlink (p : PortId) : (s.received p).downlink = s.downlink := rfl
@[simp] theorem State.received_clock (p : PortId) : (s.received p).clock = s.clock := rfl
@[simp] theorem State.received_plans (p : PortId) : (s.received p).plans = s.plans := rfl
@[simp] theorem State.received_checks (p : PortId) : (s.received p).checks = s.checks := rfl
@[simp] theorem State.received_nextSerial (p : PortId) : (s.received p).nextSerial = s.nextSerial := rfl
@[simp] theorem State.received_links (p : PortId) : (s.received p).links = s.links := rfl
@[simp] theorem State.received_desks (p : PortId) : (s.received p).desks = s.desks := rfl
@[simp] theorem State.received_settings (p : PortId) : (s.received p).settings = s.settings := rfl
@[simp] theorem State.received_supply (p : PortId) : (s.received p).supply = s.supply := rfl
@[simp] theorem State.received_coldPending (p : PortId) : (s.received p).coldPending = s.coldPending := rfl
@[simp] theorem State.received_mode (p : PortId) : (s.received p).mode = s.mode := rfl
@[simp] theorem State.received_cause (p : PortId) : (s.received p).cause = s.cause := rfl
@[simp] theorem State.received_restartSeen (p : PortId) : (s.received p).restartSeen = s.restartSeen := rfl
@[simp] theorem State.received_restartDue (p : PortId) : (s.received p).restartDue = s.restartDue := rfl
@[simp] theorem State.received_due (p : PortId) : (s.received p).due = s.due := rfl
@[simp] theorem State.received_pending (p : PortId) : (s.received p).pending = s.pending := rfl

/-! ## `State.answered` -/

@[simp] theorem State.answered_zones (p : PortId) (k : Kind) (r : MasterReply) :
    (s.answered p k r).zones = s.zones := rfl
@[simp] theorem State.answered_bays (p : PortId) (k : Kind) (r : MasterReply) :
    (s.answered p k r).bays = s.bays := rfl
@[simp] theorem State.answered_records (p : PortId) (k : Kind) (r : MasterReply) :
    (s.answered p k r).records = s.records := rfl
@[simp] theorem State.answered_cache (p : PortId) (k : Kind) (r : MasterReply) :
    (s.answered p k r).cache = s.cache := rfl
@[simp] theorem State.answered_engine (p : PortId) (k : Kind) (r : MasterReply) :
    (s.answered p k r).engine = s.engine := rfl
@[simp] theorem State.answered_waitList (p : PortId) (k : Kind) (r : MasterReply) :
    (s.answered p k r).waitList = s.waitList := rfl
@[simp] theorem State.answered_fifo (p : PortId) (k : Kind) (r : MasterReply) :
    (s.answered p k r).fifo = s.fifo := rfl
@[simp] theorem State.answered_intake (p : PortId) (k : Kind) (r : MasterReply) :
    (s.answered p k r).intake = s.intake := rfl
@[simp] theorem State.answered_feeders (p : PortId) (k : Kind) (r : MasterReply) :
    (s.answered p k r).feeders = s.feeders := rfl
@[simp] theorem State.answered_queue (p : PortId) (k : Kind) (r : MasterReply) :
    (s.answered p k r).queue = s.queue := rfl
@[simp] theorem State.answered_nextJoin (p : PortId) (k : Kind) (r : MasterReply) :
    (s.answered p k r).nextJoin = s.nextJoin := rfl
@[simp] theorem State.answered_grants (p : PortId) (k : Kind) (r : MasterReply) :
    (s.answered p k r).grants = s.grants := rfl
@[simp] theorem State.answered_nextGrant (p : PortId) (k : Kind) (r : MasterReply) :
    (s.answered p k r).nextGrant = s.nextGrant := rfl
@[simp] theorem State.answered_downlink (p : PortId) (k : Kind) (r : MasterReply) :
    (s.answered p k r).downlink = s.downlink := rfl
@[simp] theorem State.answered_clock (p : PortId) (k : Kind) (r : MasterReply) :
    (s.answered p k r).clock = s.clock := rfl
@[simp] theorem State.answered_plans (p : PortId) (k : Kind) (r : MasterReply) :
    (s.answered p k r).plans = s.plans := rfl
@[simp] theorem State.answered_checks (p : PortId) (k : Kind) (r : MasterReply) :
    (s.answered p k r).checks = s.checks := rfl
@[simp] theorem State.answered_nextSerial (p : PortId) (k : Kind) (r : MasterReply) :
    (s.answered p k r).nextSerial = s.nextSerial := rfl
@[simp] theorem State.answered_links (p : PortId) (k : Kind) (r : MasterReply) :
    (s.answered p k r).links = s.links := rfl
@[simp] theorem State.answered_desks (p : PortId) (k : Kind) (r : MasterReply) :
    (s.answered p k r).desks = s.desks := rfl
@[simp] theorem State.answered_settings (p : PortId) (k : Kind) (r : MasterReply) :
    (s.answered p k r).settings = s.settings := rfl
@[simp] theorem State.answered_supply (p : PortId) (k : Kind) (r : MasterReply) :
    (s.answered p k r).supply = s.supply := rfl
@[simp] theorem State.answered_coldPending (p : PortId) (k : Kind) (r : MasterReply) :
    (s.answered p k r).coldPending = s.coldPending := rfl
@[simp] theorem State.answered_mode (p : PortId) (k : Kind) (r : MasterReply) :
    (s.answered p k r).mode = s.mode := rfl
@[simp] theorem State.answered_cause (p : PortId) (k : Kind) (r : MasterReply) :
    (s.answered p k r).cause = s.cause := rfl
@[simp] theorem State.answered_restartSeen (p : PortId) (k : Kind) (r : MasterReply) :
    (s.answered p k r).restartSeen = s.restartSeen := rfl
@[simp] theorem State.answered_restartDue (p : PortId) (k : Kind) (r : MasterReply) :
    (s.answered p k r).restartDue = s.restartDue := rfl
@[simp] theorem State.answered_due (p : PortId) (k : Kind) (r : MasterReply) :
    (s.answered p k r).due = s.due := rfl
@[simp] theorem State.answered_pending (p : PortId) (k : Kind) (r : MasterReply) :
    (s.answered p k r).pending = s.pending := rfl

/-! ## Reads after writes -/

theorem State.record?_setRecord (i j : RecIdx) (r : Option TrailerRecord) :
    (s.setRecord i r).record? j = if i = j then r else s.record? j := by
  simp only [State.record?, State.setRecord, Fin.getElem_fin, Vector.getElem_set, Fin.ext_iff]

@[simp] theorem State.record?_setRecord_self (i : RecIdx) (r : Option TrailerRecord) :
    (s.setRecord i r).record? i = r := by simp [State.record?_setRecord]

theorem State.record?_setRecord_ne {i j : RecIdx} (r : Option TrailerRecord) (h : i ≠ j) :
    (s.setRecord i r).record? j = s.record? j := by simp [State.record?_setRecord, h]

@[simp] theorem State.record?_setBay (b : BayAddr) (e : BayEntry) (i : RecIdx) :
    (s.setBay b e).record? i = s.record? i := rfl

@[simp] theorem State.record?_setFeeder (f : FeederNo) (x : Feeder) (i : RecIdx) :
    (s.setFeeder f x).record? i = s.record? i := rfl

@[simp] theorem State.record?_setDesk (m : Master) (d : Desk) (i : RecIdx) :
    (s.setDesk m d).record? i = s.record? i := rfl

@[simp] theorem State.record?_setPort (p : PortId) (x : Port) (i : RecIdx) :
    (s.setPort p x).record? i = s.record? i := rfl

@[simp] theorem State.record?_setCacheSet (k : Fin 4) (c : CacheSet) (i : RecIdx) :
    (s.setCacheSet k c).record? i = s.record? i := rfl

@[simp] theorem State.bayAt_setRecord (i : RecIdx) (r : Option TrailerRecord) (b : BayAddr) :
    (s.setRecord i r).bayAt b = s.bayAt b := rfl

/-- A bay reads back as it was written, and every other bay as before. -/
theorem State.bayAt_setBay (b c : BayAddr) (e : BayEntry) :
    (s.setBay b e).bayAt c = if b = c then e else s.bayAt c := by
  obtain ⟨bz, bb⟩ := b
  obtain ⟨cz, cb⟩ := c
  simp only [State.bayAt, State.setBay, Fin.getElem_fin, Vector.getElem_set, BayAddr.mk.injEq, Fin.ext_iff]
  by_cases hz : bz.val = cz.val
  · by_cases hb : bb.val = cb.val
    · simp [hz, hb]
    · have hz' : bz = cz := Fin.ext hz
      subst hz'
      simp [hb]
  · simp [hz]

@[simp] theorem State.bayAt_setBay_self (b : BayAddr) (e : BayEntry) : (s.setBay b e).bayAt b = e := by
  simp [State.bayAt_setBay]

@[simp] theorem State.desk_setDesk_self (m : Master) (d : Desk) : (s.setDesk m d).desk m = d := by cases m <;> rfl

theorem State.desk_setDesk_ne {m n : Master} (d : Desk) (h : m ≠ n) : (s.setDesk m d).desk n = s.desk n := by
  cases m <;> cases n <;> first | rfl | exact absurd rfl h

@[simp] theorem State.desk_setRecord (i : RecIdx) (r : Option TrailerRecord) (m : Master) :
    (s.setRecord i r).desk m = s.desk m := rfl

@[simp] theorem State.desk_setPort (p : PortId) (x : Port) (m : Master) : (s.setPort p x).desk m = s.desk m := rfl

@[simp] theorem State.port_setPort_self (p : PortId) (x : Port) : (s.setPort p x).port p = x := by cases p <;> rfl

theorem State.port_setPort_ne {p q : PortId} (x : Port) (h : p ≠ q) : (s.setPort p x).port q = s.port q := by
  cases p <;> cases q <;> first | rfl | exact absurd rfl h

@[simp] theorem State.port_setRecord (i : RecIdx) (r : Option TrailerRecord) (p : PortId) :
    (s.setRecord i r).port p = s.port p := rfl

@[simp] theorem State.port_setDesk (m : Master) (d : Desk) (p : PortId) : (s.setDesk m d).port p = s.port p := rfl

/-- A second write of a port replaces the first. -/
@[simp] theorem State.setPort_setPort (p : PortId) (x y : Port) : (s.setPort p x).setPort p y = s.setPort p y := by
  cases p <;> rfl

/-- Writing back what a port holds changes nothing. -/
@[simp] theorem State.setPort_port (p : PortId) : s.setPort p (s.port p) = s := by cases p <;> rfl

/-- Writing back what a record holds changes nothing. -/
@[simp] theorem State.setRecord_record? (i : RecIdx) : s.setRecord i (s.record? i) = s := by
  simp [State.setRecord, State.record?]

/-- A request completing on a FREE port finds it FREE and HUNTING. -/
@[simp] theorem State.port_received_self (p : PortId) :
    (s.received p).port p = { s.port p with receiver := .hunting } := by simp [State.received]

end Sys2Proof.Machine
end

