-- ==== Sys2Proof/Laws/Frames.lean ====
section
/-! SUPPORT. What each shared operation can change, said once. `State.outsideNotices` is the part with what raising an event can
change blanked out, and so on outwards; an operation that leaves it equal leaves every field it keeps equal, which
`congrArg` of the field then says. -/

namespace Sys2Proof.Machine

open Sys2Proof

/-! ## What is left when a group of fields is blanked out -/

/-- The part less the notices, lines and windows, and the Check List. -/
def State.outsideNotices (s : State) : State := { s with desks := .all Desk.cold, checks := [], nextSerial := 0 }

/-- The part less the notices, the Check List, and the Trailer Records with the Downlink Queue. -/
def State.outsideRecords (s : State) : State :=
  { s with desks := .all Desk.cold, checks := [], nextSerial := 0, records := Vector.replicate 48 none, downlink := [] }

/-- The part less the notices, the Check List, the records and what the Defrost Scheduler keeps. -/
def State.outsideScheduler (s : State) : State :=
  { s with
    desks := .all Desk.cold, checks := [], nextSerial := 0, records := Vector.replicate 48 none, downlink := []
    feeders := Vector.replicate 4 Feeder.cold, queue := [], nextJoin := 1, grants := [], nextGrant := 1 }

theorem outsideRecords_of_outsideNotices {s t : State} (h : s.outsideNotices = t.outsideNotices) :
    s.outsideRecords = t.outsideRecords := by
  have view : s.outsideNotices.outsideRecords = t.outsideNotices.outsideRecords := congrArg State.outsideRecords h
  exact view

theorem outsideScheduler_of_outsideRecords {s t : State} (h : s.outsideRecords = t.outsideRecords) :
    s.outsideScheduler = t.outsideScheduler := by
  have view : s.outsideRecords.outsideScheduler = t.outsideRecords.outsideScheduler := congrArg State.outsideScheduler h
  exact view

theorem outsideScheduler_of_outsideNotices {s t : State} (h : s.outsideNotices = t.outsideNotices) :
    s.outsideScheduler = t.outsideScheduler := by
  have view : s.outsideNotices.outsideScheduler = t.outsideNotices.outsideScheduler := congrArg State.outsideScheduler h
  exact view

/-- A fold of steps that each keep a view keeps it. -/
theorem foldl_keeps {α β : Type} (view : State → β) (step : State → α → State)
    (h : ∀ s a, view (step s a) = view s) : ∀ (l : List α) (s : State), view (l.foldl step s) = view s
  | [], _ => rfl
  | a :: l, s => (foldl_keeps view step h l (step s a)).trans (h s a)

/-! ## Events -/

theorem State.offerTo_frame (e : Event) (m : Master) (s : State) : (s.offerTo e m).outsideNotices = s.outsideNotices := by
  unfold State.offerTo
  split <;> rfl

theorem State.notify_frame (e : Event) (s : State) : (s.notify e).outsideNotices = s.outsideNotices := by
  simp only [State.notify, State.offerTo_frame]

theorem State.tryAdd_frame (q : CheckAsk) (s : State) : (s.tryAdd q).1.outsideNotices = s.outsideNotices := by
  unfold State.tryAdd
  split
  · rfl
  · split <;> rfl

theorem State.raiseListFull_frame (e : Event) (s : State) :
    (s.raiseListFull e).outsideNotices = s.outsideNotices := by
  unfold State.raiseListFull
  simp only
  split
  · exact s.notify_frame e
  · exact (State.tryAdd_frame _ _).trans (s.notify_frame e)

theorem State.askItem_frame (q : CheckAsk) (s : State) : (s.askItem q).1.outsideNotices = s.outsideNotices := by
  have h := s.tryAdd_frame q
  unfold State.askItem
  split <;> rename_i heq <;> rw [heq] at h
  · exact (State.raiseListFull_frame _ _).trans h
  · exact h

/-- Raising an event changes nothing but notices, lines and the Check List. -/
theorem State.raise_frame (e : Event) (s : State) : (s.raise e).outsideNotices = s.outsideNotices := by
  unfold State.raise
  split
  · exact s.raiseListFull_frame e
  · simp only
    split
    · exact s.notify_frame e
    · exact (State.askItem_frame _ _).trans (s.notify_frame e)

theorem State.raiseFor_frame (i : RecIdx) (d : Detail) (s : State) :
    (s.raiseFor i d).outsideNotices = s.outsideNotices := s.raise_frame _

/-! ## Records, chains and commands -/

theorem State.updRecord_frame (i : RecIdx) (f : TrailerRecord → TrailerRecord) (s : State) :
    (s.updRecord i f).outsideRecords = s.outsideRecords := by
  unfold State.updRecord
  split <;> rfl

theorem State.queueCommand_frame (i : RecIdx) (c : Command) (s : State) :
    (s.queueCommand i c).outsideRecords = s.outsideRecords :=
  s.updRecord_frame i fun r => { r with slot := .queued c }

/-- A hand-off changes nothing but the record's slot and the Downlink Queue. -/
theorem State.handOff_frame (i : RecIdx) (w : Command) (s : State) : (s.handOff i w).outsideRecords = s.outsideRecords := by
  unfold State.handOff
  split
  · rfl
  · split
    · rfl
    · split
      · exact s.queueCommand_frame i w
      · exact s.updRecord_frame i _
      · split
        · rfl
        · exact s.updRecord_frame i _
      · split <;> exact s.updRecord_frame i _

theorem State.pushActivity_frame (i : RecIdx) (k : Activity) (setBy : Option Master) (s : State) :
    (s.pushActivity i k setBy).outsideRecords = s.outsideRecords := by
  unfold State.pushActivity
  split
  · rfl
  · split
    · rfl
    · exact (State.handOff_frame _ _ _).trans (s.updRecord_frame i _)

theorem State.removeActivity_frame (i : RecIdx) (k : Activity) (s : State) :
    (s.removeActivity i k).outsideRecords = s.outsideRecords := by
  unfold State.removeActivity
  split
  · rfl
  · split
    · simp only
      split
      · exact (State.handOff_frame _ _ _).trans (s.updRecord_frame i _)
      · exact s.updRecord_frame i _
    · rfl

theorem State.clearFlight_frame (i : RecIdx) (s : State) : (s.clearFlight i).outsideRecords = s.outsideRecords := by
  unfold State.clearFlight
  split
  · rfl
  · split
    · exact s.updRecord_frame i _
    · exact s.queueCommand_frame i _
    · rfl
    · rfl

theorem State.matchConfirmation_frame (i : RecIdx) (c : Option Nat) (s : State) :
    (s.matchConfirmation i c).outsideRecords = s.outsideRecords := by
  unfold State.matchConfirmation
  split
  · split
    · split
      · exact s.clearFlight_frame i
      · rfl
    · rfl
  · rfl

theorem State.requeueOnEcho_frame (i : RecIdx) (echo : ModeEcho) (s : State) :
    (s.requeueOnEcho i echo).outsideRecords = s.outsideRecords := by
  unfold State.requeueOnEcho
  split
  · split
    · exact s.queueCommand_frame i _
    · rfl
  · rfl

/-- A UNT reply's command changes nothing but its record and the Downlink Queue. -/
theorem State.sendHead_frame (s : State) : s.sendHead.1.outsideRecords = s.outsideRecords := by
  unfold State.sendHead
  split
  · rfl
  · split
    · rfl
    · simp only
      split
      · rfl
      · split
        · exact State.updRecord_frame _ _ _
        · rfl
        · rfl
        · rfl

/-! ## Fuel -/

theorem State.evaluateFuel_frame (i : RecIdx) (level : Nat) (s : State) :
    (s.evaluateFuel i level).outsideRecords = s.outsideRecords := by
  unfold State.evaluateFuel
  split
  · rfl
  · simp only
    split
    · exact (outsideRecords_of_outsideNotices (State.raiseFor_frame _ _ _)).trans (s.updRecord_frame i _)
    · exact s.updRecord_frame i _

theorem State.fuelCase_frame (i : RecIdx) (f : Nat) (stamp : YardTime) (s : State) :
    (s.fuelCase i f stamp).outsideRecords = s.outsideRecords := by
  unfold State.fuelCase
  split
  · rfl
  · split
    · exact s.updRecord_frame i _
    · split
      · exact s.updRecord_frame i _
      · split
        · exact (State.updRecord_frame i _ _).trans
            ((outsideRecords_of_outsideNotices (State.raiseFor_frame _ _ _)).trans (s.updRecord_frame i _))
        · split
          · exact s.updRecord_frame i _
          · rfl

theorem State.fuelUpdate_frame (i : RecIdx) (source : Source) (x : Readings) (s : State) :
    (s.fuelUpdate i source x).outsideRecords = s.outsideRecords := by
  unfold State.fuelUpdate
  split
  · exact (State.evaluateFuel_frame _ _ _).trans (s.fuelCase_frame i _ _)
  · rfl

/-- A fuel posting changes nothing but records, notices and the Check List. -/
theorem State.postFuel_frame (i : RecIdx) (level : Nat) (refuelled : Bool) (s : State) :
    (s.postFuel i level refuelled).outsideRecords = s.outsideRecords := by
  unfold State.postFuel
  refine (State.evaluateFuel_frame _ _ _).trans ?_
  split
  · exact (outsideRecords_of_outsideNotices (State.raiseFor_frame _ _ _)).trans
      ((State.updRecord_frame i _ _).trans (s.updRecord_frame i _))
  · exact s.updRecord_frame i _

/-! ## The Defrost Scheduler -/

theorem State.joinRoom_frame (s : State) : s.joinRoom.outsideScheduler = s.outsideScheduler := by
  unfold State.joinRoom
  split <;> rfl

theorem State.joinQueue_frame (i : RecIdx) (excess : Nat) (manual : Bool) (n : Nat) (s : State) :
    (s.joinQueue i excess manual n).outsideScheduler = s.outsideScheduler := s.joinRoom_frame

theorem State.leaveQueue_frame (i : RecIdx) (s : State) : (s.leaveQueue i).outsideScheduler = s.outsideScheduler := rfl

theorem State.rewriteEntry_frame (e : QueueEntry) (s : State) :
    (s.rewriteEntry e).outsideScheduler = s.outsideScheduler := rfl

theorem State.evaluateDemand_frame (i : RecIdx) (s : State) :
    (s.evaluateDemand i).outsideScheduler = s.outsideScheduler := by
  unfold State.evaluateDemand
  split
  · rfl
  · split
    · exact (outsideScheduler_of_outsideNotices (State.raiseFor_frame _ _ _)).trans (s.joinQueue_frame i _ _ _)
    · rfl

theorem State.recomputeExcess_frame (i : RecIdx) (s : State) :
    (s.recomputeExcess i).outsideScheduler = s.outsideScheduler := by
  unfold State.recomputeExcess
  split
  · split
    · rfl
    · split <;> rfl
  · rfl

/-- A grant changes nothing but its record, the Defrost Scheduler and the Downlink Queue. -/
theorem State.grant_frame (i : RecIdx) (f : Option FeederNo) (load : Nat) (s : State) :
    (s.grant i f load).outsideScheduler = s.outsideScheduler := by
  unfold State.grant
  refine (outsideScheduler_of_outsideRecords (State.pushActivity_frame i .defrost none _)).trans ?_
  have h := outsideScheduler_of_outsideRecords ((s.leaveQueue i).updRecord_frame i fun r =>
    { r with run := some { grant := s.nextGrant, feeder := f, load := load, heating := 0, paused := 0 } })
  cases f <;> exact h

theorem Pass.consider_frame (p : Pass) (i : RecIdx) :
    (p.consider i).state.outsideScheduler = p.state.outsideScheduler := by
  unfold Pass.consider
  split
  · split
    · simp only
      split
      · exact State.grant_frame _ _ _ _
      · split
        · split
          · rfl
          · exact State.grant_frame _ _ _ _
        · split
          · split <;> rfl
          · rfl
    · rfl
  · rfl

theorem State.walkQueue_frame (s : State) : s.walkQueue.state.outsideScheduler = s.outsideScheduler := by
  have walk : ∀ (l : List RecIdx) (p : Pass),
      (l.foldl Pass.consider p).state.outsideScheduler = p.state.outsideScheduler := by
    intro l
    induction l with
    | nil => intro p; rfl
    | cons i l ih => intro p; exact (ih _).trans (p.consider_frame i)
  exact walk _ _

theorem State.raiseShort_frame (s : State) (x : FeederNo × RecIdx) :
    (s.raiseShort x).outsideNotices = s.outsideNotices := by
  unfold State.raiseShort
  split
  · rfl
  · exact State.raiseFor_frame _ _ _

/-- A grant pass changes nothing but records, the Defrost Scheduler, the Downlink Queue, notices and the Check List. -/
theorem State.grantPass_frame (s : State) : s.grantPass.outsideScheduler = s.outsideScheduler :=
  (foldl_keeps State.outsideScheduler State.raiseShort
    (fun s x => outsideScheduler_of_outsideNotices (s.raiseShort_frame x)) _ _).trans s.walkQueue_frame

theorem State.reenqueue_frame (i : RecIdx) (s : State) : (s.reenqueue i).outsideScheduler = s.outsideScheduler := by
  unfold State.reenqueue
  split
  · rfl
  · split
    · exact s.joinQueue_frame i _ _ _
    · rfl

theorem State.queueAction_frame (i : RecIdx) (k : EndKind) (s : State) :
    (s.queueAction i k).outsideScheduler = s.outsideScheduler := by
  cases k
  case timedOut => exact s.evaluateDemand_frame i
  case revoked => exact s.reenqueue_frame i
  all_goals rfl

/-- The end of a defrost changes nothing but records, the Defrost Scheduler, the Downlink Queue, notices and the Check
List. -/
theorem State.endDefrost_frame (i : RecIdx) (k : EndKind) (s : State) :
    (s.endDefrost i k).outsideScheduler = s.outsideScheduler := by
  unfold State.endDefrost
  split
  · rfl
  · rename_i d _
    refine (State.queueAction_frame _ _ _).trans ?_
    refine (outsideScheduler_of_outsideNotices (State.raiseFor_frame _ _ _)).trans ?_
    refine outsideScheduler_of_outsideRecords ((State.updRecord_frame _ _ _).trans
      ((State.removeActivity_frame _ _ _).trans (State.updRecord_frame _ _ _))) |>.trans ?_
    have h := outsideScheduler_of_outsideRecords (s.updRecord_frame i fun r => { r with run := none })
    split <;> exact h

theorem State.cutGrants_frame (f : FeederNo) : ∀ (n : Nat) (s : State),
    (State.cutGrants f n s).outsideScheduler = s.outsideScheduler
  | 0, _ => rfl
  | n + 1, s => by
    unfold State.cutGrants
    split
    · rfl
    · split
      · rfl
      · exact (State.cutGrants_frame f n _).trans (s.endDefrost_frame _ _)

theorem State.regrantOn_frame (i : RecIdx) (f : Option FeederNo) (s : State) :
    (s.regrantOn i f).outsideScheduler = s.outsideScheduler := by
  have h := outsideScheduler_of_outsideRecords
    (s.updRecord_frame i fun r => { r with run := r.run.map fun d => { d with feeder := f } })
  exact h

theorem State.sourceChange_frame (i : RecIdx) (s : State) : (s.sourceChange i).outsideScheduler = s.outsideScheduler := by
  unfold State.sourceChange
  split
  · rfl
  · split
    · rfl
    · split
      · exact State.regrantOn_frame _ _ _
      · simp only
        split
        · exact State.regrantOn_frame _ _ _
        · exact s.endDefrost_frame _ _
      · rfl
      · rfl

theorem State.terminationTest_frame (i : RecIdx) (x : Readings) (s : State) :
    (s.terminationTest i x).outsideScheduler = s.outsideScheduler := by
  unfold State.terminationTest
  split
  · rfl
  · split
    · exact s.endDefrost_frame _ _
    · rfl

theorem State.demandStep_frame (i : RecIdx) (s : State) : (s.demandStep i).outsideScheduler = s.outsideScheduler :=
  (State.grantPass_frame _).trans ((State.evaluateDemand_frame _ _).trans (s.recomputeExcess_frame i))

/-! ## Reports -/

theorem State.doorStep_frame (i : RecIdx) (door : Door) (previous : Option Door) (s : State) :
    (s.doorStep i door previous).outsideRecords = s.outsideRecords := by
  unfold State.doorStep
  split
  · split
    · rfl
    · exact (State.pushActivity_frame _ _ _ _).trans (s.updRecord_frame i _)
  · split
    · rfl
    · exact (State.removeActivity_frame _ _ _).trans (s.updRecord_frame i _)

/-- An accepted report changes nothing but records, the Defrost Scheduler, the Downlink Queue, notices and the Check List. -/
theorem State.applyReport_frame (i : RecIdx) (r : TrailerRecord) (u : UnitReport) (echo : ModeEcho) (s : State) :
    (s.applyReport i r u echo).outsideScheduler = s.outsideScheduler := by
  unfold State.applyReport
  refine (outsideScheduler_of_outsideRecords (State.updRecord_frame _ _ _)).trans ?_
  refine (State.demandStep_frame _ _).trans ?_
  refine (outsideScheduler_of_outsideRecords ((State.requeueOnEcho_frame _ _ _).trans
    (State.matchConfirmation_frame _ _ _))).trans ?_
  refine (State.terminationTest_frame _ _ _).trans ?_
  refine (State.sourceChange_frame _ _).trans ?_
  exact outsideScheduler_of_outsideRecords ((State.doorStep_frame _ _ _ _).trans ((State.fuelUpdate_frame _ _ _ _).trans
    ((State.updRecord_frame _ _ _).trans (s.updRecord_frame i _))))

/-! ## Round plans -/

theorem State.roundBay_frame (p : Fin 8) (plan : Plan) (s : State) (b : BayAddr) :
    (s.roundBay p plan b).outsideNotices = s.outsideNotices := by
  unfold State.roundBay
  split
  · rfl
  · split
    · rfl
    · split
      · exact State.askItem_frame _ _
      · rfl

theorem State.testPlan_frame (s : State) (p : Fin 8) : (s.testPlan p).outsideNotices = s.outsideNotices := by
  unfold State.testPlan
  simp only
  split
  · exact (foldl_keeps State.outsideNotices (State.roundBay p s.plans[p]) (State.roundBay_frame p _) _ _).trans
      (s.raise_frame _)
  · rfl

/-- The test of the Round Plans changes nothing but notices, lines and the Check List. -/
theorem State.testPlans_frame (s : State) : s.testPlans.outsideNotices = s.outsideNotices := by
  unfold State.testPlans
  split
  · exact foldl_keeps State.outsideNotices State.testPlan State.testPlan_frame _ _
  · rfl

/-! ## Consequences of a tick -/

theorem State.closeWindow_frame (m : Master) (s : State) : (s.closeWindow m).outsideNotices = s.outsideNotices := by
  unfold State.closeWindow
  simp only
  split <;> rfl

theorem State.timeoutItem_frame (i : RecIdx) (k : CheckKind) (s : State) :
    (s.timeoutItem i k).outsideNotices = s.outsideNotices := by
  unfold State.timeoutItem
  split
  · rfl
  · simp only
    split
    · exact State.raiseFor_frame _ _ _
    · rfl

theorem State.timeoutCommand_frame (i : RecIdx) (s : State) :
    (s.timeoutCommand i).outsideRecords = s.outsideRecords := by
  unfold State.timeoutCommand
  split
  · rfl
  · exact (State.clearFlight_frame _ _).trans (outsideRecords_of_outsideNotices (State.raiseFor_frame _ _ _))

/-- Taking a consequence of a tick changes nothing but records, the Defrost Scheduler, the Downlink Queue, notices, lines,
windows and the Check List. -/
theorem State.take_frame (e : TickEvent) (s : State) : (s.take e).outsideScheduler = s.outsideScheduler := by
  cases e with
  | rollover => exact outsideScheduler_of_outsideNotices s.testPlans_frame
  | silent i =>
    exact outsideScheduler_of_outsideRecords
      ((outsideRecords_of_outsideNotices (State.raiseFor_frame _ _ _)).trans (s.updRecord_frame i _))
  | doorLong i =>
    show (s.openLong i).outsideScheduler = _
    unfold State.openLong
    split
    · rfl
    · exact outsideScheduler_of_outsideRecords
        ((outsideRecords_of_outsideNotices (State.raiseFor_frame _ _ _)).trans (s.updRecord_frame i _))
  | abandon i => exact (State.grantPass_frame _).trans (s.endDefrost_frame i _)
  | timeOut i => exact (State.grantPass_frame _).trans (s.endDefrost_frame i _)
  | waitOver i => exact (State.grantPass_frame _).trans (outsideScheduler_of_outsideRecords (s.updRecord_frame i _))
  | unconfirmed i => exact outsideScheduler_of_outsideRecords (s.timeoutCommand_frame i)
  | checkTimeout i k => exact outsideScheduler_of_outsideNotices (s.timeoutItem_frame i k)
  | windowOver m => exact outsideScheduler_of_outsideNotices (s.closeWindow_frame m)

/-- Taking a list of consequences leaves nothing due, and the rest of the part, outside what a consequence can change, as it
was. -/
theorem State.takeAll_frame : ∀ (l : List TickEvent) (s : State),
    (State.takeAll l s).outsideScheduler = { s with due := [] }.outsideScheduler
  | [], _ => rfl
  | e :: rest, s => (State.takeAll_frame rest _).trans
      (congrArg (fun t : State => { t with due := [] }) (State.take_frame e { s with due := rest }))

/-- Settling takes every consequence that is due and leaves the rest of the part, outside what a consequence can change, as it
was. -/
theorem State.settle_frame (s : State) : s.settle.outsideScheduler = { s with due := [] }.outsideScheduler :=
  State.takeAll_frame s.due s

/-- What a consequence changes, when it is taken with others still due, leaves those due. -/
@[simp] theorem State.take_due (e : TickEvent) (s : State) : (s.take e).due = s.due := by
  have due : (s.take e).outsideScheduler.due = s.outsideScheduler.due := congrArg State.due (s.take_frame e)
  exact due

/-- With nothing due, settling does nothing. -/
@[simp] theorem State.settle_of_nothing_due {s : State} (h : s.due = []) : s.settle = s := by
  obtain ⟨⟩ := s
  simp only at h
  subst h
  rfl

/-! ## Lookups -/

/-- A lookup changes nothing but the Tag Cache, the engine and the search wait list. -/
theorem State.lookup_frame (w : Waiter) (t : Tag) (s : State) :
    ∃ c e l, (s.lookup w t).1 = { s with cache := c, engine := e, waitList := l } := by
  unfold State.lookup
  split
  · exact ⟨s.cache, s.engine, s.waitList, rfl⟩
  · split
    · exact ⟨_, s.engine, s.waitList, rfl⟩
    · unfold State.startSearch
      simp only
      split
      · exact ⟨s.cache, _, s.waitList, rfl⟩
      · exact ⟨s.cache, s.engine, _, rfl⟩

/-- A search's outcome changes nothing but the Tag Cache. -/
theorem State.searchResult_frame (t : Tag) (s : State) : ∃ c, (s.searchResult t).1 = { s with cache := c } := by
  unfold State.searchResult
  split
  · exact ⟨s.cache, rfl⟩
  · split
    · exact ⟨s.cache, rfl⟩
    · exact ⟨_, rfl⟩

end Sys2Proof.Machine
end

