-- ==== Sys2Proof/Tests/Slice0.lean ====
section
/-! SUPPORT. Tests: the well-formedness smoke test, the codes and checks the manual writes out, single commands whose outcome the
manual's worked cases give, and for each statement a state and operands that meet its hypotheses together. -/

namespace Sys2Proof.Tests

open Sys2Proof Sys2Proof.Machine

set_option Elab.async false

/-! ## Small states -/

/-- The state a command leaves. -/
def after (c : Instr) (s : State) : State :=
  match exec c s with
  | .next t => t
  | .fault _ => s
  | .refused _ => s

/-- A tag. -/
def tag7 : Tag := 0x5D2C8E10

/-- A bay in zone 1. -/
def bay19 : BayAddr := ⟨1, 9⟩

/-- An empty bay in the same zone. -/
def bay13 : BayAddr := ⟨1, 3⟩

/-- A trailer as PLACE leaves it. -/
def trailer : TrailerRecord := TrailerRecord.placed tag7 bay19 none none 600

/-- A yard with zone 1 open, and a trailer as given placed in record 0 at bay 1.09, its translation cached. -/
def lotOf (r : TrailerRecord) : State :=
  State.fillCache { tag := tag7, record := 0, bay := bay19, rights := Rights.all }
    (({ State.reset with zones := State.reset.zones.set 1 { Zone.cold 1 with isOpen := true } }.setRecord 0
      (some r)).setBay bay19 { BayEntry.cold with occupant := some 0 })

/-- The same, with the trailer as PLACE leaves it. -/
def lot : State := lotOf trailer

/-- What the trailer resolves to by its bay. -/
def byBay : Resolved := { record := 0, bay := bay19, rights := Rights.all, path := .walked }

/-- What the trailer resolves to by its tag. -/
def byTag : Resolved := { record := 0, bay := bay19, rights := Rights.all, path := .cached }

/-- The part as the hit of a master's lookup leaves it. -/
def hit (m : Master) (s : State) : State := (State.lookup (.master m) tag7 (s.received m.port)).1

/-- A trailer with a defrost running on feeder 1. -/
def defrosting : TrailerRecord :=
  { trailer with
    unitState := .live
    chain := trailer.chain ++ [{ kind := .defrost, covered := some .cool, setBy := none }]
    run := some { grant := 1, feeder := some 1, load := 60, heating := 0, paused := 0 } }

/-- The yard while that defrost runs. -/
def heating : State :=
  { (lotOf defrosting).setFeeder 1 { budget := 200, granted := 60 } with
    grants := [{ number := 1, record := 0, feeder := some 1, load := 60 }], nextGrant := 2 }

/-- A trailer under a service hold. -/
def held : TrailerRecord :=
  { trailer with chain := trailer.chain ++ [{ kind := .serviceHold, covered := some .cool, setBy := some .ofc }] }

/-- A check item on the trailer. -/
def doorItem : CheckItem :=
  { tag := tag7, record := 0, kind := .door, priority := .normal, origin := .manual, state := .pending,
    createdAt := ⟨24, 6, 14, 9, 12, 3⟩, reissues := 0, serial := 0 }

/-- A command in flight. -/
def flight : InFlight := { command := .heatOn, sequence := 5, sentAt := ⟨24, 6, 14, 9, 12, 3⟩, seconds := 0 }

/-- A report of the trailer. -/
def report : UnitReport :=
  { tag := tag7, sequence := 42, source := .shore, door := .closed, echoCode := 1, returnAir := -180, coil := -260,
    ambient := 200, humidity := some 85, fuel := none, confirmation := none, arrival := ⟨24, 6, 14, 9, 12, 3⟩ }

/-- A notice. -/
def notice : Notice :=
  { tag := some tag7, bay := some bay19, detail := .fuelLow 14 none, stamp := ⟨24, 6, 14, 9, 12, 3⟩,
    lostBefore := false, record := some 0 }

/-! ## Well-formedness smoke test -/

theorem test_wellFormed_body_of_120 : (Instr.statusGet .ofc (List.replicate 120 0)).wellFormed = true := by
  decide +kernel

theorem test_wellFormed_refuses_body_of_121 : (Instr.statusGet .ofc (List.replicate 121 0)).wellFormed = false := by
  decide +kernel

theorem test_wellFormed_refuses_known_kind_as_unknown : (Instr.unknownKind .ofc 0x01 []).wellFormed = false := by decide

theorem test_wellFormed_refuses_unknownKind_body_of_121 :
    (Instr.unknownKind .ofc 0xFF (List.replicate 121 0)).wellFormed = false := by decide +kernel

theorem test_wellFormed_refuses_portBusy_body_of_121 :
    (Instr.portBusy .ofc 0x01 (List.replicate 121 0)).wellFormed = false := by decide +kernel

theorem test_wellFormed_refuses_length_120_as_above :
    (Instr.bodyLengthAbove120 .ofc 120).wellFormed = false ∧ (Instr.bodyLengthAbove120 .ofc 121).wellFormed = true := by
  decide

/-! ## Bytes the manual writes out -/

/-- The check of the ASCII digits 1 to 9 (R167). -/
theorem test_check_of_the_digits : crc16 [0x31, 0x32, 0x33, 0x34, 0x35, 0x36, 0x37, 0x38, 0x39] = 0x29B1#16 := by
  decide +kernel

/-- The kind numbers of Table 10-6, in its order. -/
theorem test_kind_numbers :
    ([1, 2] ++ List.range' 16 39).map (fun n => Kind.ofCode (byteOf n)) =
      ([.unitReport, .poll, .zoneSet, .zoneGet, .baySet, .place, .move, .release, .recordGet, .recordEdit, .collect,
        .scanChanged, .sweepSeen, .flushTags, .clockSet, .clockTrim, .clockGet, .planSet, .planGet, .linkSet, .linkGet,
        .configSet, .configGet, .defrostRequest, .defrostCancel, .holdSet, .holdClear, .fuelPost, .checkAdd,
        .checkClose, .checkList, .queueGet, .feederGet, .fetchNotice, .holdNotices, .releaseNotices, .statusGet,
        .yardRestart, .setBudget, .revoke, .nextCheck] : List Kind).map some := by decide +kernel

/-- Kind bytes next to those of Table 10-6 name nothing. -/
theorem test_other_kind_numbers : [0, 3, 15, 55, 255].map (fun n => Kind.ofCode (byteOf n)) = List.replicate 5 none := by
  decide +kernel

/-- PLACE of 0x5D2C8E10 at 1.09, source absent, heater load 6.0 kW (Tables 10-5 and 10-6, R173). -/
theorem test_place_body :
    Request.parse .place [0x5D, 0x2C, 0x8E, 0x10, 1, 9, 0, 0, 1, 60] = some (.place tag7 bay19 none (some 60)) := by
  decide +kernel

/-- A heater load of 251 is out of range, and a presence byte of 2 is too (R15, R173). -/
theorem test_place_body_out_of_range :
    Request.parse .place [0x5D, 0x2C, 0x8E, 0x10, 1, 9, 0, 0, 1, 251] = none ∧
      Request.parse .place [0x5D, 0x2C, 0x8E, 0x10, 1, 9, 2, 0, 1, 60] = none := by decide +kernel

/-- A subject by bay address, and one of form 2 (Table 10-5, R172). -/
theorem test_subject_forms :
    Request.parse .holdSet [1, 1, 9, 0, 0] = some (.holdSet (.bay bay19)) ∧
      Request.parse .holdSet [0, 0x5D, 0x2C, 0x8E, 0x10] = some (.holdSet (.tag tag7)) ∧
        Request.parse .holdSet [2, 1, 9, 0, 0] = none := by decide +kernel

/-- SET_BUDGET of feeder 1 to 180, its value high byte first (R92, R173). -/
theorem test_setBudget_body : Request.parse .setBudget [1, 0, 180] = some (.setBudget 1 180) := by decide +kernel

/-- CLOCK_SET to 24-02-29, a Thursday, and to the same day of a common year (Table 8-2, R134). -/
theorem test_clockSet_body :
    Request.parse .clockSet [24, 2, 29, 4, 9, 12, 3] = some (.clockSet ⟨24, 2, 29, 9, 12, 3⟩ 4) ∧
      Request.parse .clockSet [25, 2, 29, 6, 9, 12, 3] = none := by decide +kernel

/-- CONFIG_SET of setting 4 to its least value and below it (Table 10-7). -/
theorem test_configSet_body :
    Request.parse .configSet [4, 5] = some (.configSet (.checkTimeout 5)) ∧ Request.parse .configSet [4, 4] = none := by
  decide +kernel

/-- A unit report body as Table 10-2 lays it out, with −26.0 °C at the coil. -/
theorem test_unitReport_body :
    UnitReport.parse ⟨24, 6, 14, 9, 12, 3⟩
        [0x5D, 0x2C, 0x8E, 0x10, 42, 0x04, 1, 0xFF, 0x4C, 0xFE, 0xFC, 0x00, 0xC8, 85, 7, 9] = some report := by
  decide +kernel

/-- A cause record as Table 10-5 sends it. -/
theorem test_cause_bytes :
    Cause.bytes { level := .bay, access := .act, path := .walked, name := .bay bay19 } = [2, 2, 2, 1, 1, 9, 0, 0] := by
  decide +kernel

/-! ## Numbers the manual works out -/

/-- A coil reading of −612 is stored as −400 (R46). -/
theorem test_clamp : clampTemp (-612) = -400 := by decide

/-- A return-air of −180 and a coil of −260 give 80; +50 and −400 give 200 (R60). -/
theorem test_coilDrop : coilDrop (-180) (-260) = 80 ∧ coilDrop 50 (-400) = 200 := by decide

/-- Halves round up (R62). -/
theorem test_frostLevel_rounds : frostLevel 131071 = 0 ∧ frostLevel 131072 = 1 ∧ frostLevel 262144 = 1 := by decide

/-- February of a leap year and of a common year (Table 8-2). -/
theorem test_monthLength : monthLength 24 2 = 29 ∧ monthLength 25 2 = 28 ∧ monthLength 0 2 = 29 := by decide

/-- The last second of a leap February, a Thursday, carries into a Friday, 1 March (Table 8-2, R132). -/
theorem test_clock_carries :
    Clock.tick ⟨⟨24, 2, 29, 23, 59, 59⟩, 4, true⟩ = ⟨⟨24, 3, 1, 0, 0, 0⟩, 5, true⟩ := by decide

/-- The frost update of section 4.5.1: 156000000 becomes 159672000, level 609. -/
theorem test_frost_at_the_dock :
    frostAfter Settings.cold 156000000 { report.readings .cool with door := .opened } (some .closed) 60 = 159672000 ∧
      frostLevel 159672000 = 609 := by decide +kernel

/-- Saturation, time-out and termination (Table 4-3). -/
theorem test_frost_ends :
    frostLevel 17100000000 = 65231 ∧ frostAtEnd .timedOut 17179607040 = 8589803520 ∧ frostLevel 8589803520 = 32768 ∧
      frostAtEnd .terminated 8589803520 = 0 := by decide +kernel

/-- The samples, rates and runways of section 4.11. -/
theorem test_fuel_through_a_weekend :
    (rateSample 1 1800, averagedRate 30 20, runwayOf 41 29) = (20, 29, 848) ∧
      (rateSample 5 3600, averagedRate 29 50, runwayOf 36 32) = (50, 32, 675) ∧
      (rateSample 1 20, averagedRate 32 600, runwayOf 35 103) = (600, 103, 203) ∧ runwayOf 92 103 = 535 ∧
      (rateSample 1 3600, averagedRate 103 10, runwayOf 91 91) = (10, 91, 600) := by decide +kernel

/-- At the second reading of section 4.11 fuel-low turns on; at the fourth it stays on. -/
theorem test_fuelLow_turns_on_and_stays :
    fuelLowAfter (Zone.cold 1) false 36 32 675 = true ∧ fuelLowAfter (Zone.cold 1) true 92 103 535 = true := by decide

/-! ## Single commands -/

/-- ZONE_SET of a closed zone with an occupied bay is BUSY (R2). -/
theorem test_zoneSet_busy :
    ((after (.zoneSet .ofc (1 :: (Zone.cold 1).bytes)) lot).port .ofc).activity =
      .replying { kind := 16, body := .master .busy } := by decide +kernel

/-- PLACE in a closed zone is NOT_PRESENT at level ZONE (R15, section 1.9). -/
theorem test_place_in_a_closed_zone :
    ((after (.place .ofc [0x9A, 0x31, 0xC0, 0x07, 6, 0, 0, 0, 0, 0]) lot).port .ofc).activity =
      .replying
        { kind := 19
          body := .master (.notPresent { level := .zone, access := .act, path := .walked, name := .bay ⟨6, 0⟩ }) } := by
  decide +kernel

/-- HOLD_SET from PAT by a cached tag pushes SERVICE_HOLD and queues STANDBY (R80, Table 5-2). -/
theorem test_holdSet :
    ((after (.holdSet .pat [0, 0x5D, 0x2C, 0x8E, 0x10]) lot).record? 0).map
        (fun r => (r.chain.map ChainEntry.kind, r.slot)) = some ([.cool, .serviceHold], .queued .standby) := by
  decide +kernel

/-- HOLD_SET on a trailer under a service hold is BUSY (R80). -/
theorem test_holdSet_busy :
    ((after (.holdSet .pat [0, 0x5D, 0x2C, 0x8E, 0x10]) (lotOf held)).port .pat).activity =
      .replying { kind := 39, body := .master .busy } := by decide +kernel

/-- DEFROST_REQUEST with room on the feeder grants at once: HEAT_ON is queued and the load is charged (R96, R102). -/
theorem test_defrostRequest_grants :
    let s := after (.defrostRequest .ofc [1, 1, 9, 0, 0])
      ((lotOf { trailer with unitState := .live }).setFeeder 1 { budget := 60, granted := 0 })
    s.feeders[(1 : FeederNo)].granted = 60 ∧ (s.record? 0).map TrailerRecord.slot = some (.queued .heatOn) ∧
      s.queue = [] := by decide +kernel

/-- A cut of the budget below the granted sum revokes the grant, with the trailer's level below its threshold not queued again
(R92, R108). -/
theorem test_setBudget_cuts :
    let s := after (.setBudget .cab [1, 0, 59]) heating
    s.grants = [] ∧ s.feeders[(1 : FeederNo)] = ⟨59, 0⟩ ∧ s.queue = [] := by decide +kernel

/-- NEXT_CHECK on a port it is not listed for (Table 10-6). -/
theorem test_nextCheck_wrongPort :
    ((after (.nextCheck .ofc []) lot).port .ofc).activity = .replying { kind := 54, body := .master .wrongPort } := by
  decide +kernel

/-- A report at a full FIFO is refused, and the answer carries status 17 (R41, Table 10-3). -/
theorem test_unitReport_refused :
    let s := after (.unitReport .unt (List.replicate 16 0)) { lot with fifo := List.replicate 8 report }
    (s.port .unt).activity = .replying { kind := 1, body := .unit .reportRefused none } ∧ s.fifo.length = 8 ∧
      UnitStatus.reportRefused.code = 17 := by decide +kernel

/-- The answer to a NEXT_CHECK with nothing to issue is EMPTY with no fields, and a BUSY is its code alone (Table 10-4). -/
theorem test_reply_bytes :
    (MasterReply.empty .nothing).bytes = [1] ∧ MasterReply.busy.bytes = [4] ∧
      (MasterReply.rights ⟨.bay, .act, .walked, .bay bay19⟩).bytes = [3, 2, 2, 2, 1, 1, 9, 0, 0] := by decide +kernel

/-- Once the DONE to YARD_RESTART has left, STATUS_GET is answered by nothing, its port staying BUSY (R176). -/
theorem test_no_reply_before_the_restart :
    ((after (.statusGet .cab []) { lot with restartDue := true }).port .cab).activity = .awaitingRestart := by
  decide +kernel

/-- STATUS_GET sets the asker's restart-seen flag and no other (R175). -/
theorem test_statusGet_seen : (after (.statusGet .cab []) lot).restartSeen = ⟨false, true, false⟩ := by decide +kernel

/-- MFAIL asserted releases the lines and empties the FIFO; supply lost leaves the part unpowered (R177, R178). -/
theorem test_supplies :
    (after .mfailAsserted { lot with fifo := [report] }).fifo = [] ∧ (after .supplyLoss lot).supply = .unpowered := by
  decide +kernel

/-! ## Facts of the small states -/

/-- Every port of the yard is ready. -/
theorem lotOf_ready (r : TrailerRecord) (p : PortId) : (lotOf r).ready p := by cases p <;> exact ⟨rfl, rfl, rfl⟩

/-- The trailer is the only one placed. -/
theorem lotOf_record? (r x : TrailerRecord) (i : RecIdx) (h : (lotOf r).record? i = some x) : i = 0 ∧ x = r := by
  have cold : ∀ j : RecIdx, State.reset.record? j = none := by decide +kernel
  have set : (State.reset.setRecord 0 (some r)).record? i = some x := h
  rw [State.record?_setRecord, cold] at set
  split at set
  · next e => exact ⟨e.symm, (Option.some.inj set).symm⟩
  · cases set

/-- The trailer's bay is the only one occupied. -/
theorem lotOf_bayAt (r : TrailerRecord) (b : BayAddr) (i : RecIdx) (h : ((lotOf r).bayAt b).occupant = some i) :
    b = bay19 ∧ i = 0 := by
  have cold : ∀ z : Fin 8, ∀ n : Fin 16, (State.reset.bayAt ⟨z, n⟩).occupant = none := by decide +kernel
  have set : ((State.reset.setBay bay19 { BayEntry.cold with occupant := some 0 }).bayAt b).occupant = some i := h
  rw [State.bayAt_setBay] at set
  split at set
  · next e => exact ⟨e.symm, (Option.some.inj set).symm⟩
  · rw [show b = ⟨b.zone, b.bay⟩ from rfl, cold] at set
    cases set

/-- The trailer resolves by its tag at any master, at a hit. -/
theorem lotOf_resolves (r : TrailerRecord) (m : Master) :
    ((lotOf r).received m.port).resolvesTo m (.tag tag7) (hit m (lotOf r)) byTag := by
  have cached : ((lotOf r).received m.port).cacheHit tag7 = some (0, ⟨tag7, 0, bay19, Rights.all⟩) := by
    show lot.cacheHit tag7 = _
    decide +kernel
  refine Prod.ext rfl ?_
  rw [State.lookup, if_neg (by decide), cached]
  rfl

/-- The hit leaves the trailer where it is. -/
theorem hit_record? (r : TrailerRecord) (m : Master) : (hit m (lotOf r)).record? 0 = some r := by
  have hitRecords : (hit m (lotOf r)).records = (lotOf r).records := by
    obtain ⟨c, e, l, h⟩ := State.lookup_frame (.master m) tag7 ((lotOf r).received m.port)
    rw [hit, h]
    rfl
  have set : (State.reset.setRecord 0 (some r)).record? 0 = some r := State.record?_setRecord_self _ _ _
  show (hit m (lotOf r)).records[(0 : RecIdx)] = some r
  rw [hitRecords]
  exact set

/-- The trailer resolves by its bay. -/
theorem lotOf_resolves_by_bay (r : TrailerRecord) (m : Master) :
    ((lotOf r).received m.port).resolvesTo m (.bay bay19) ((lotOf r).received m.port) byBay := by
  cases m <;> exact ⟨rfl, by rfl⟩

/-! ## Witnesses: the machine, bytes and frames -/

theorem witness_StepRunsTheQueue :
    ({ lot with pending := [.secondTick, .takeHead] } : State).pending = [.secondTick, .takeHead] ∧
      lot.pending = [] := ⟨rfl, rfl⟩

/-- Nothing due; two consequences due, of which the first is taken first; and a command that is no consequence. -/
theorem witness_ConsequencesSettleFirst :
    lot.due = [] ∧ ({ lot with due := [.windowOver .ofc, .silent 0] } : State).due = .windowOver .ofc :: [.silent 0] ∧
      isConsequence .secondTick = false := ⟨rfl, rfl, rfl⟩

theorem witness_RequestReadsBack :
    (Request.recordEdit (.bay bay19) (some 10) (some 65535)).inRange = true ∧
      (Request.recordEdit (.tag tag7) (some 250) (some 50)).inRange = true ∧
      (Request.zoneSet 7 (Zone.cold 7)).inRange = true ∧ (Request.clockSet ⟨0, 2, 29, 23, 59, 59⟩ 7).inRange = true ∧
      (Request.setBudget 3 65535).inRange = true ∧ (Request.revoke (.tag tag7) 240).inRange = true ∧
      (Request.checkList 63).inRange = true ∧ (Request.queueGet 47).inRange = true ∧
      (Request.planSet 0 ⟨true, .fuelRound, 255, .atTime 59 23 7 31 .dhm⟩).inRange = true := by decide +kernel

theorem witness_FrameIsReceived :
    (List.replicate 120 (0 : Byte)).length ≤ 120 ∧
      crc16 (byteOf 0 :: 0x32 :: []) ≠ ((0 : Byte) ++ (0 : Byte) : BitVec 16) := by decide +kernel

/-- A master's port that replies, and each kind of port with a PORT_BUSY begun. -/
theorem witness_ReportsAndRepliesAreLaidOut :
    ((lot.answered .ofc .statusGet .busy).port .ofc).activity = .replying ⟨50, .master .busy⟩ ∧
      ((lot.setActivity .unt (.answeringBusy 1)).port .unt).activity = .answeringBusy 1 ∧
      ((lot.setActivity .cab (.answeringBusy 50)).port .cab).activity = .answeringBusy 50 := by decide +kernel

theorem witness_FrameTestsDecide :
    lot.ready .pat ∧ Kind.ofCode 55 = none ∧ Kind.ofCode 16 = some .zoneSet ∧ Kind.zoneSet.allowedOn .pat = false ∧
      Kind.ofCode 54 = some .nextCheck ∧ Kind.nextCheck.allowedOn .pat = true ∧
      ([0] : List Byte).length ≠ Kind.nextCheck.bodyLength ∧
      ((lot.setActivity .cab (.answeringBusy 50)).port .cab).activity ≠ .free := by
  refine ⟨lotOf_ready _ _, ?_⟩
  decide +kernel

theorem witness_ReceiversMoveAndRepliesLeave :
    lot.supply = .inService ∧ lot.due = [] ∧ lot.restartDue = false ∧ 120 < (121 : Byte).toNat ∧
      (lot.port .ofc).owed = none ∧
      ((lot.answered .ofc .statusGet .busy).port .ofc).activity =
        .replying { kind := 50, body := .master .busy } ∧
      (Reply.isRestart { kind := 50, body := .master .busy }) = false ∧
      ((lot.setPort .ofc ⟨.hunting, .replying { kind := 50, body := .master .busy }, some 54⟩).port .ofc).owed = some 54 ∧
      ((lot.setActivity .cab (.answeringBusy 50)).port .cab).activity = .answeringBusy 50 ∧ lot.ready .ofc := by
  have ready := lotOf_ready trailer .ofc
  refine ⟨rfl, rfl, rfl, ?_, ?_, ?_, ?_, ?_, ?_, ready⟩ <;> decide +kernel

/-- The yard once the DONE to YARD_RESTART has left. -/
def doomed : State := { lot with restartDue := true }

/-- A second tick leaves the restart due; with none due a reply begins. -/
theorem witness_NothingIsSentBeforeTheRestart :
    doomed.restartDue = true ∧ doomed.supply = .inService ∧ doomed.due = [] ∧
      exec (.statusGet .cab []) doomed = .next (after (.statusGet .cab []) doomed) ∧
      (after (.statusGet .cab []) doomed).restartDue = true ∧ lot.restartDue = false := by
  refine ⟨rfl, rfl, rfl, rfl, ?_, rfl⟩
  decide +kernel

/-- A request of the right length whose zone is 8. -/
theorem witness_FrameTestsDecide_range :
    lot.ready .ofc ∧ Kind.ofCode Kind.zoneGet.code = some .zoneGet ∧ Kind.zoneGet.allowedOn .ofc = true ∧
      PortId.ofc ≠ .unt ∧ ([8] : List Byte).length = Kind.zoneGet.bodyLength ∧ Request.parse .zoneGet [8] = none := by
  refine ⟨lotOf_ready _ _, ?_⟩
  decide +kernel

theorem witness_RequestIsTaken :
    lot.ready Master.pat.port ∧ Request.nextCheck.inRange = true ∧
      Request.nextCheck.kind.allowedOn Master.pat.port = true := ⟨lotOf_ready _ _, rfl, rfl⟩

theorem witness_UnitFramesAreAnswered :
    lot.ready .unt ∧ lot.downlink = [] ∧
      ((lotOf { trailer with slot := .queued .heatOn }).record? 0 =
        some { trailer with slot := .queued .heatOn }) ∧
      ({ lotOf { trailer with slot := .queued .heatOn } with downlink := [0] } : State).mode = .yard ∧
      ({ lot with fifo := List.replicate 7 report } : State).fifo.length < 8 ∧
      8 ≤ ({ lot with fifo := List.replicate 8 report } : State).fifo.length ∧
      UnitReport.parse lot.clock.time (List.replicate 16 0) ≠ none := by
  have ready := lotOf_ready trailer .unt
  refine ⟨ready, ?_⟩
  decide +kernel

theorem witness_StatusAndSettingsAreReadAndWritten :
    lot.ready Master.cab.port ∧ lot.ready .ofc ∧ 100 ≤ 100 ∧ 255 ≤ 255 ∧ 5 ≤ 5 ∧ 120 ≤ 120 ∧ lot.settings.attention.get .pat ≠ .pulse ∧
      (PlanMatch.every 5).inRange = true ∧ (PlanMatch.atTime 59 23 7 31 .dhm).inRange = true := by
  refine ⟨lotOf_ready _ _, lotOf_ready _ _, ?_⟩
  decide +kernel

/-! ## Witnesses: the Yard Map and the Tag Translator -/

/-- Closing zone 1 is refused, moving it to feeder 2 while the defrost runs is refused, and writing it as it is is not. -/
theorem witness_MapEntriesAreWritten :
    lot.ready .ofc ∧ (Zone.cold 1).inRange = true ∧
      (lot.zones[(1 : Fin 8)].isOpen ∧ ¬ (Zone.cold 1).isOpen ∧
        ∃ b : BayAddr, b.zone = 1 ∧ (lot.bayAt b).occupant ≠ none) ∧
      (∃ i r d, heating.record? i = some r ∧ r.bay.zone = 1 ∧ r.run = some d ∧ d.feeder ≠ none) ∧
      ¬ ((State.reset.zones[(1 : Fin 8)].isOpen ∧ ¬ (Zone.cold 1).isOpen ∧
          ∃ b : BayAddr, b.zone = 1 ∧ (State.reset.bayAt b).occupant ≠ none) ∨
        ((Zone.cold 1).feeder ≠ State.reset.zones[(1 : Fin 8)].feeder ∧
          ∃ i r d, State.reset.record? i = some r ∧ r.bay.zone = 1 ∧ r.run = some d ∧ d.feeder ≠ none)) := by
  refine ⟨lotOf_ready _ _, by decide, ⟨by decide +kernel, by decide, bay19, rfl, by decide +kernel⟩, ?_, ?_⟩
  · exact ⟨0, defrosting, _, by decide +kernel, rfl, rfl, by decide⟩
  · have closed : State.reset.zones[(1 : Fin 8)].isOpen = false := by decide +kernel
    have feeder : (Zone.cold 1).feeder = State.reset.zones[(1 : Fin 8)].feeder := by decide +kernel
    rintro (⟨h, -⟩ | ⟨h, -⟩)
    · rw [closed] at h
      cases h
    · exact h feeder

theorem witness_ReadoutsGiveWhatStands :
    lot.ready Master.ofc.port ∧ lot.ready Master.cab.port ∧ Master.cab ≠ .pat ∧ 47 ≤ 47 ∧ 63 ≤ 63 ∧
      lot.changedFrom 0 = [(0, tag7)] := by
  refine ⟨lotOf_ready _ _, lotOf_ready _ _, by decide, by decide, by decide, by decide +kernel⟩

theorem witness_SubjectsResolve :
    State.reset.zones[bay19.zone].isOpen = false ∧
      (lot.zones[bay13.zone].isOpen = true ∧ (lot.bayAt bay13).occupant = none) ∧
      (lot.zones[bay19.zone].isOpen = true ∧ (lot.bayAt bay19).occupant = some 0) ∧
      (tag7 ≠ 0 ∧ State.reset.cacheHit tag7 = none ∧ State.reset.engine = none ∧
        (lot.cacheHit tag7).isSome = true) ∧
      (∀ k a b x y, State.reset.cache[(k : Fin 4)].ways[(a : Fin 4)] = some x →
        State.reset.cache[k].ways[(b : Fin 4)] = some y → x.tag = y.tag → a = b) := by
  have empty : ∀ k a : Fin 4, State.reset.cache[k].ways[a] = none := by decide +kernel
  refine ⟨by decide +kernel, by decide +kernel, by decide +kernel, by decide +kernel, ?_⟩
  intro k a b x y h
  rw [empty] at h
  cases h

/-- The set of Table 2-1 before its fill. -/
def fullSet : CacheSet :=
  let entry (t : Tag) : CacheEntry := ⟨t, 0, bay19, Rights.all⟩
  { ways := #v[some (entry 0x3E5A0C14), some (entry 0x7A0033C4), some (entry 0x0B7E2214), some (entry 0x51C0FF00)]
    recency := [2, 0, 3, 1] }

/-- A set that holds the tag, one with an invalid way, and the full one. -/
theorem witness_SubjectsResolve_fill :
    (∃ x : CacheEntry, fullSet.ways[(3 : Fin 4)] = some x ∧ x.tag = 0x51C0FF00) ∧
      lot.cache[(1 : Fin 4)].ways[(0 : Fin 4)] = none ∧
      (∀ (v : Fin 4), (fullSet.ways[v]).all fun x => x.tag ≠ 0x6110A008) ∧ (∀ a : Fin 4, fullSet.ways[a] ≠ none) ∧
      fullSet.recency.getLast? = some 1 := by
  refine ⟨⟨_, rfl, rfl⟩, ?_⟩
  decide +kernel

/-- The fill of Table 2-1. -/
theorem test_fill_of_a_full_set :
    let c := fullSet.fill ⟨0x6110A008, 0, bay19, Rights.all⟩
    c.recency = [1, 2, 0, 3] ∧ (c.ways[(1 : Fin 4)]).map CacheEntry.tag = some 0x6110A008 := by decide +kernel

theorem witness_RecordIsReadOutAndEdited :
    lot.ready .ofc ∧ lot.ready .pat ∧ (Subject.tag tag7).inRange = true ∧
      (lot.received .ofc).resolvesTo .ofc (.tag tag7) (hit .ofc lot) byTag ∧
      (lot.received .pat).resolvesTo .pat (.tag tag7) (hit .pat lot) byTag ∧
      (lot.received .ofc).resolvesTo .ofc (.bay bay19) (lot.received .ofc) byBay ∧
      (hit .ofc lot).record? 0 = some trailer ∧ (hit .pat lot).record? 0 = some trailer ∧
      (Request.recordEdit (.tag tag7) (some 250) (some 50)).inRange = true :=
  ⟨lotOf_ready _ _, lotOf_ready _ _, by decide, lotOf_resolves _ .ofc, lotOf_resolves _ .pat,
    lotOf_resolves_by_bay _ .ofc, hit_record? _ _, hit_record? _ _, by decide⟩

/-- The yard with STRICT on and the trailer's bay locked. -/
def strictLot : State :=
  { lot.setBay bay19 { occupant := some 0, rights := Rights.all, locked := true } with
    settings := { Settings.cold with strict := true } }

/-- The refusal of RECORD_EDIT: STRICT is on, and the bay that the trailer resolves to is locked. -/
theorem witness_RecordIsReadOutAndEdited_strict :
    strictLot.ready .ofc ∧
      (strictLot.received .ofc).resolvesTo .ofc (.bay bay19) (strictLot.received .ofc) byBay ∧
      (strictLot.received .ofc).record? 0 = some trailer ∧ (strictLot.received .ofc).settings.strict = true ∧
      ((strictLot.received .ofc).bayAt byBay.bay).locked = true ∧
      (Request.recordEdit (.bay bay19) (some 10) none).inRange = true :=
  ⟨⟨rfl, rfl, rfl⟩, ⟨rfl, by rfl⟩, by decide +kernel, rfl, by decide +kernel, by decide⟩

theorem witness_PlacePlaces :
    lot.ready .ofc ∧ (Request.place 5 bay13 none (some 10)).inRange = true ∧ lot.zones[bay13.zone].isOpen = true ∧
      (lot.bayAt bay13).occupant = none ∧ lot.engine = none ∧ lot.cacheHit 5 = none ∧ lot.findTag 5 = none ∧
      lot.waitList = [] ∧ lot.firstFree = some 1 := by
  refine ⟨lotOf_ready _ _, ?_⟩
  decide +kernel

theorem witness_MoveMoves :
    (lotOf defrosting).ready .ofc ∧
      ((lotOf defrosting).received .ofc).resolvesTo .ofc (.tag tag7) (hit .ofc (lotOf defrosting)) byTag ∧
      (hit .ofc (lotOf defrosting)).record? 0 = some defrosting ∧ defrosting.bay ≠ bay13 ∧
      (lotOf defrosting).settings.strict = false ∧ (lotOf defrosting).zones[bay13.zone].isOpen = true ∧
      ((lotOf defrosting).bayAt bay13).occupant = none ∧
      (∀ d f, defrosting.run = some d → d.feeder = some f → f = (lotOf defrosting).zones[bay13.zone].feeder) := by
  refine ⟨lotOf_ready _ _, lotOf_resolves _ .ofc, hit_record? _ _, by decide, by decide +kernel, by decide +kernel,
    by decide +kernel, ?_⟩
  intro d f hd hf
  cases hd
  cases hf
  decide +kernel

theorem witness_ReleaseFrees :
    lot.ready .ofc ∧ (lot.received .ofc).resolvesTo .ofc (.tag tag7) (hit .ofc lot) byTag ∧
      (hit .ofc lot).record? 0 = some trailer ∧ lot.settings.strict = false ∧ trailer.run = none :=
  ⟨lotOf_ready _ _, lotOf_resolves _ .ofc, hit_record? _ _, by decide +kernel, rfl⟩

/-- A release of a trailer whose defrost runs. -/
theorem witness_ReleaseFrees_defrosting :
    (lotOf defrosting).ready .ofc ∧
      ((lotOf defrosting).received .ofc).resolvesTo .ofc (.tag tag7) (hit .ofc (lotOf defrosting)) byTag ∧
      (hit .ofc (lotOf defrosting)).record? 0 = some defrosting ∧ (lotOf defrosting).settings.strict = false ∧
      defrosting.run = some { grant := 1, feeder := some 1, load := 60, heating := 0, paused := 0 } :=
  ⟨lotOf_ready _ _, lotOf_resolves _ .ofc, hit_record? _ _, by decide +kernel, rfl⟩

/-- The lock refusals: STRICT is on, and the bay to which the cached tag resolves is locked, or the target bay is. -/
theorem witness_ReleaseFrees_locked :
    strictLot.ready .ofc ∧ (strictLot.received .ofc).resolvesTo .ofc (.tag tag7) (hit .ofc strictLot) byTag ∧
      (hit .ofc strictLot).record? byTag.record = some trailer ∧ strictLot.settings.strict = true ∧
      (strictLot.bayAt byTag.bay).locked = true ∧ (strictLot.bayAt bay13).locked = false ∧
      ((strictLot.setBay bay13 { BayEntry.cold with locked := true }).bayAt bay13).locked = true :=
  ⟨⟨rfl, rfl, rfl⟩, Prod.ext rfl (by decide +kernel), by decide +kernel, rfl, by decide +kernel, by decide +kernel,
    by decide +kernel⟩

theorem witness_SweepAndFlushClear : lot.ready .ofc := lotOf_ready _ _

/-- The yard while a request waits for the search of a tag. -/
def searching (w : Waiter) (t : Tag) (a : PortActivity) : State :=
  { (lot.setActivity .pat a) with engine := some ⟨w, t⟩ }

theorem witness_SearchCompletes :
    (∀ w t a, (searching w t a).supply = .inService ∧ (searching w t a).due = [] ∧
      (searching w t a).engine = some ⟨w, t⟩ ∧ ((searching w t a).port .pat).activity = a) ∧
      lot.findTag 5 = none ∧ lot.findTag tag7 = some 0 ∧ lot.record? 0 = some trailer ∧
      ({ searching .intake tag7 .free with fifo := [report] } : State).fifo = [report] := by
  refine ⟨fun w t a => ⟨rfl, rfl, rfl, rfl⟩, ?_⟩
  decide +kernel

/-! ## Witnesses: the Report Intake and the Estimator -/

theorem witness_HeadIsTakenAndApplied :
    lot.supply = .inService ∧ lot.due = [] ∧ lot.intake = .idle ∧
      (∀ n, 1 ≤ n → n ≤ 5 → (6 : Byte).toNat ≠ n) ∧ (∀ n, 1 ≤ n → n ≤ 5 → (0 : Byte).toNat ≠ n) ∧
      (1 ≤ report.echoCode.toNat ∧ report.echoCode.toNat ≤ 5 ∧ report.tag ≠ 0) ∧
      (lot.cacheHit report.tag).isSome = true ∧ State.reset.cacheHit report.tag = none ∧ State.reset.engine = none ∧
      ModeEcho.ofCode report.echoCode = some .cool ∧ ModeEcho.ofCode 5 = some .off ∧
      lot.record? 0 = some trailer ∧ trailer.tag = report.tag ∧ trailer.lastSequence ≠ some report.sequence ∧
      State.reset.record? 0 = none := by
  refine ⟨rfl, rfl, rfl, ?_, ?_, ?_⟩
  · intro n h1 h5
    have six : (6 : Byte).toNat = 6 := by decide
    omega
  · intro n h1 _
    have zero : (0 : Byte).toNat = 0 := by decide
    omega
  · decide +kernel

theorem witness_AcceptedReportIsStored : lot.record? 0 = some trailer := by decide +kernel

/-- A record at the bound of the time step, and a report whose coil term and door term both apply. -/
theorem witness_FrostIsCounted :
    trailer.lastSequence = none ∧
      ({ trailer with lastSequence := some 41, reportAge := 900 } : TrailerRecord).reportAge = 900 ∧
      (report.readings .cool).humidity = some 85 ∧ (report.readings .cool).echo = .cool ∧ (report.readings .cool).coil < 0 ∧
      ({ report.readings .cool with door := .opened } : Readings).door = .opened ∧ 900 ≤ 900 ∧ 100 ≤ 100 ∧
      Settings.cold.doorWeight ≤ 255 ∧ lot.record? 0 = some trailer := by decide +kernel

theorem witness_FuelIsReckoned :
    (1 ≤ 1 ∧ 65535 < 2 ^ 16) ∧ (100 ≤ 100 ∧ 1 ≤ 1) ∧ 14 < (Zone.cold 1).fuelFloor ∧
      (0 < 1 ∧ 719 < (Zone.cold 1).fuelMargin) ∧ (Zone.cold 1).fuelFloor + 5 ≤ 20 ∧
      (Zone.cold 1).fuelMargin + 60 ≤ 780 := by decide

/-- A trailer with a fuel reference. -/
def fuelled (p : Nat) : TrailerRecord := { trailer with fuelRef := some p }

/-- Each case of Table 4-5, at its bounds, a reading for it, and a fuel-low that turns on and one that does not. -/
theorem witness_FuelReadingTakesItsCase :
    lot.record? 0 = some trailer ∧ trailer.fuelRef = none ∧
      (lotOf (fuelled 50)).record? 0 = some (fuelled 50) ∧ (fuelled 50).fuelRef = some 50 ∧ 49 < 50 ∧ 50 + 5 ≤ 55 ∧
      (50 < 51 ∧ 54 < 50 + 5) ∧
      ({ report.readings .cool with fuel := some 50 } : Readings).fuel = some 50 ∧ (report.readings .cool).fuel = none ∧
      fuelLowAfter lot.zones[bay19.zone] trailer.fuelLow 14 0 65535 = true ∧ trailer.fuelLow = false ∧
      fuelLowAfter lot.zones[bay19.zone] trailer.fuelLow 15 0 65535 = false := by decide +kernel

theorem witness_FuelPostSetsTheReference :
    lot.ready Master.pat.port ∧ byTag.rights.check = true ∧ (Subject.tag tag7).inRange = true ∧ 100 ≤ 100 ∧
      (lot.received Master.pat.port).resolvesTo .pat (.tag tag7) (hit .pat lot) byTag ∧
      (hit .pat lot).record? byTag.record = some trailer :=
  ⟨lotOf_ready _ _, rfl, by decide, by decide, lotOf_resolves _ .pat, hit_record? _ _⟩

/-! ## Witnesses: chains and unit commands -/

theorem witness_SlotFollowsItsTables :
    lot.record? 0 = some trailer ∧ lot.mode = .yard ∧ trailer.slot = .empty ∧
      ({ trailer with slot := .sent flight } : TrailerRecord).slot.flight = some flight ∧ flight.command ≠ .fansOff ∧
      flight.sequence.val = 5 := by decide +kernel

/-- QUEUED with another and with the same command, and SENT_NEXT with the one in flight, another and the next. -/
theorem witness_SlotFollowsItsTables_queued :
    (lotOf { trailer with slot := .queued .heatOn }).record? 0 = some { trailer with slot := .queued .heatOn } ∧
      (.heatOn : Command) ≠ .fansOff ∧
      (lotOf { trailer with slot := .sentNext flight .fansOff }).record? 0 =
        some { trailer with slot := .sentNext flight .fansOff } ∧
      flight.command = .heatOn ∧ flight.command ≠ .standby ∧ (.fansOff : Command) ≠ .standby ∧
      flight.command ≠ .fansOff ∧ ({ trailer with slot := .sentNext flight .fansOff } : TrailerRecord).slot.flight =
        some flight ∧ (6 : Nat) ≠ flight.sequence.val ∧ lot.mode = .yard ∧
      ({ lot with mode := .commission } : State).mode = .commission := by decide +kernel

theorem witness_ChainChangesHandOver :
    lot.record? 0 = some trailer ∧ trailer.holds .doorHold = false ∧ held.holds .serviceHold = true ∧
      held.effective = .serviceHold ∧ effectiveOf (held.chain.filter fun e => e.kind ≠ .serviceHold) ≠ .defrost ∧
      defrosting.holds .cool = true ∧ defrosting.effective ≠ .cool ∧ defrosting.run.isSome = true := by decide +kernel

/-- A door hold above a running defrost, whose removal resumes it. -/
theorem witness_ChainChangesHandOver_resume :
    effectiveOf ((defrosting.chain ++ [(⟨.doorHold, some .defrost, none⟩ : ChainEntry)]).filter
      fun e => e.kind ≠ .doorHold) = .defrost := by decide

/-- A defrosting trailer whose grant is DIESEL. -/
def dieselGrant : TrailerRecord :=
  { defrosting with run := some { grant := 1, feeder := none, load := 60, heating := 0, paused := 0 } }

/-- Each door history, a SHORE grant whose report gives DIESEL, a DIESEL grant whose report gives SHORE with the feeder at its
bound and one short of it, a grant that stands, and a running defrost whose coil is at the termination temperature. -/
theorem witness_ReportActsOnTheDefrost :
    lot.record? 0 = some trailer ∧ trailer.run = none ∧ some Door.opened ≠ some .closed ∧ (none : Option Door) ≠ some .opened ∧
      (lotOf { defrosting with source := .diesel }).record? 0 = some { defrosting with source := .diesel } ∧
      (defrosting.run.map RunData.feeder) = some (some 1) ∧
      (lotOf dieselGrant).record? 0 = some dieselGrant ∧ dieselGrant.source = .shore ∧
      (dieselGrant.run.map RunData.feeder) = some none ∧ (lotOf dieselGrant).zones[bay19.zone].feeder = 1 ∧
      (((lotOf dieselGrant).setFeeder 1 ⟨60, 0⟩).feeders[(1 : FeederNo)].granted + 60 ≤
        ((lotOf dieselGrant).setFeeder 1 ⟨60, 0⟩).feeders[(1 : FeederNo)].budget) ∧
      (((lotOf dieselGrant).setFeeder 1 ⟨59, 0⟩).feeders[(1 : FeederNo)].budget <
        ((lotOf dieselGrant).setFeeder 1 ⟨59, 0⟩).feeders[(1 : FeederNo)].granted + 60) ∧
      (heating.record? 0 = some defrosting ∧ defrosting.source = .shore ∧ defrosting.effective = .defrost ∧
        heating.zones[bay19.zone].terminationTemp ≤ 100) := by decide +kernel

/-- A yard with the trailer queued. -/
def queued (e : QueueEntry) : State := { lot with queue := [e], nextJoin := 2 }

/-- Each expected echo, an automatic entry, a manual one, a level at the threshold and below it, and the joined-at counter at its
top and past it. -/
theorem witness_EchoAndDemandAreTested :
    lot.record? 0 = some trailer ∧ lot.mode = .yard ∧ trailer.effective = .cool ∧ trailer.slot = .empty ∧
      (Activity.cool, Command.coolResume, ModeEcho.cool) ∈ [(Activity.cool, Command.coolResume, ModeEcho.cool)] ∧
      ModeEcho.heat ≠ .cool ∧
      (queued ⟨0, 5, false, 1, 0⟩).queue.find? (fun x => x.record = 0) = some ⟨0, 5, false, 1, 0⟩ ∧
      (queued ⟨0, 65535, true, 1, 0⟩).queue.find? (fun x => x.record = 0) = some ⟨0, 65535, true, 1, 0⟩ ∧
      trailer.level < trailer.threshold ∧
      ({ trailer with frost := 157155328 } : TrailerRecord).level = trailer.threshold ∧ trailer.holds .defrost = false ∧
      (∀ e ∈ lot.queue, e.record ≠ 0) ∧ trailer.cancelLatch = false ∧
      ({ lot with nextJoin := 4294967295 } : State).nextJoin ≤ 4294967295 ∧
      4294967295 < ({ lot with nextJoin := 4294967296 } : State).nextJoin ∧
      (queued ⟨0, 5, false, 1, 0⟩).queue.Pairwise (fun a b =>
        b.excess < a.excess ∨ (a.excess = b.excess ∧ a.joinedAt < b.joinedAt)) ∧
      (∀ x ∈ (queued ⟨0, 5, false, 1, 0⟩).queue, x.joinedAt ≠ 2) := by decide +kernel

theorem witness_HoldIsSetAndCleared :
    (lotOf held).ready Master.pat.port ∧ byTag.rights.hold = true ∧
      ((lotOf held).received Master.pat.port).resolvesTo .pat (.tag tag7) (hit .pat (lotOf held)) byTag ∧
      (hit .pat (lotOf held)).record? byTag.record = some held ∧ held.holds .serviceHold = true ∧
      (held.chain.filter fun e => e.kind ≠ .serviceHold).map ChainEntry.kind = [.cool] ∧
      trailer.holds .serviceHold = false ∧ (hit .pat lot).record? byTag.record = some trailer :=
  ⟨lotOf_ready _ _, rfl, lotOf_resolves _ .pat, hit_record? _ _, by decide, by decide, by decide, hit_record? _ _⟩

/-- A bay that gives PAT no right on its trailer, and requests of PAT that need one, by bay; and one by a cached tag. -/
theorem witness_HoldIsSetAndCleared_refused :
    let bare := lot.setBay bay19 { occupant := some 0, rights := ⟨false, false, false⟩, locked := false }
    bare.ready .pat ∧
      (bare.received .pat).resolvesTo .pat (.bay bay19) (bare.received .pat)
        { byBay with rights := ⟨false, false, false⟩ } ∧
      (bare.received .pat).record? 0 = some trailer ∧ (Request.holdSet (.bay bay19)).inRange = true ∧
      (Request.fuelPost (.bay bay19) 100 true).inRange = true ∧
      (∀ right, Rights.has ⟨false, false, false⟩ right = false) ∧ bare.zones[bay19.zone].rights.has .hold = true := by
  refine ⟨⟨rfl, rfl, rfl⟩, ⟨rfl, by rfl⟩, by decide +kernel, by decide, by decide, ?_, by decide +kernel⟩
  intro right
  cases right <;> rfl

/-- A CHECK_CLOSE by a cached tag whose entry lacks the right. -/
theorem witness_HoldIsSetAndCleared_cached :
    let bare := lot.fillCache { tag := tag7, record := 0, bay := bay19, rights := ⟨false, false, false⟩ }
    bare.ready .pat ∧
      (bare.received .pat).resolvesTo .pat (.tag tag7) (hit .pat bare) { byTag with rights := ⟨false, false, false⟩ } ∧
      (hit .pat bare).record? 0 = some trailer ∧ (Request.checkClose tag7 .secure).inRange = true :=
  ⟨⟨rfl, rfl, rfl⟩, Prod.ext rfl (by decide +kernel), by decide +kernel, by decide⟩

/-! ## Witnesses: the Defrost Scheduler -/

theorem witness_EligibilityIsReadOff :
    lot.record? 0 = some trailer ∧ lot.eligible trailer = false ∧
      lot.eligible { trailer with unitState := .live } = true ∧
      (lot.queueView ⟨0, 5, false, 1, 0⟩).isSome = true := by decide +kernel

theorem witness_GrantIsMade : lot.record? 0 = some trailer ∧ trailer.chain.map ChainEntry.kind = [.cool] := by
  decide +kernel

/-- A trailer that a grant pass may grant. -/
def live (source : Source) : TrailerRecord := { trailer with unitState := .live, source := source }

/-- A pass over a yard with the trailer queued, its feeder with a budget. -/
def passing (source : Source) (count budget : Nat) (blocked : List FeederNo) : Pass :=
  ⟨{ (lotOf (live source)).setFeeder 1 ⟨budget, 0⟩ with queue := [⟨0, 5, false, 1, count⟩], nextJoin := 2 }, [(1, 7)], blocked,
    []⟩

/-- Each row of Table 6-2: DIESEL, a fit at the bound with and without a blocker, no fit unpinned at 3, and pinned at 4. -/
theorem witness_GrantPassWalksTheQueue :
    (∀ source count budget blocked,
      (passing source count budget blocked).state.record? 0 = some (live source) ∧
        (passing source count budget blocked).state.queue.find? (fun x => x.record = 0) =
          some ⟨0, 5, false, 1, count⟩ ∧
        (passing source count budget blocked).state.queue.map QueueEntry.record = [0]) ∧
      (passing .diesel 0 0 []).state.eligible (live .diesel) = true ∧
      (passing .shore 0 60 []).state.eligible (live .shore) = true ∧
      (passing .shore 0 60 []).state.zones[bay19.zone].defaultLoad = 60 ∧
      (passing .shore 0 60 []).state.zones[bay19.zone].feeder = 1 ∧
      (passing .shore 0 60 []).state.feeders[(1 : FeederNo)] = ⟨60, 0⟩ ∧ (1 : FeederNo) ∉ (passing .shore 0 60 []).blocked ∧
      (1 : FeederNo) ∈ (passing .shore 0 60 [1]).blocked ∧ (passing .shore 3 59 []).state.feeders[(1 : FeederNo)] = ⟨59, 0⟩ ∧
      3 < 4 ∧ 4 ≤ 4 := by
  refine ⟨fun source count budget blocked => ⟨State.record?_setRecord_self State.reset 0 (some (live source)), ?_, rfl⟩, ?_⟩
  · rfl
  · decide +kernel

/-- The part as an end finds it once DEFROST has left its chain. -/
theorem witness_DefrostEnds :
    heating.record? 0 = some defrosting ∧
      defrosting.run = some { grant := 1, feeder := some 1, load := 60, heating := 0, paused := 0 } ∧
      ((State.removeActivity 0 .defrost { (heating.setFeeder 1 ⟨200, 0⟩).setRecord 0
        (some { defrosting with run := none, frost := 0, changed := true }) with grants := [] }).record? 0).isSome = true := by
  decide +kernel

/-- A raise, the budget as it is, a cut above and a cut below the granted sum, the clamp, and the first feeder out of range. -/
theorem witness_SetBudgetRaisesAndCuts :
    heating.supply = .inService ∧ (heating.port .cab).activity = .free ∧ heating.due = [] ∧ 65535 ≤ 65535 ∧
      heating.feeders[(1 : FeederNo)].budget < min 65535 4000 ∧ heating.feeders[(1 : FeederNo)].budget = min 200 4000 ∧
      (min 60 4000 < heating.feeders[(1 : FeederNo)].budget ∧ heating.feeders[(1 : FeederNo)].granted ≤ min 60 4000) ∧
      (min 59 4000 < heating.feeders[(1 : FeederNo)].budget ∧ min 59 4000 < heating.feeders[(1 : FeederNo)].granted) ∧
      4 ≤ (4 : Byte).toNat := by decide +kernel

theorem witness_DefrostIsRequestedAndCancelled :
    lot.ready .ofc ∧ (lot.received .ofc).resolvesTo .ofc (.tag tag7) (hit .ofc lot) byTag ∧
      (hit .ofc lot).record? byTag.record = some trailer ∧ byTag.rights.defrost = true ∧
      defrosting.holds .defrost = true ∧ trailer.holds .defrost = false ∧ (∀ e ∈ lot.queue, e.record ≠ byTag.record) ∧
      lot.nextJoin ≤ 4294967295 ∧
      ({ lot with queue := [⟨0, 5, false, 1, 0⟩] } : State).queue.find? (fun x => x.record = byTag.record) =
        some ⟨0, 5, false, 1, 0⟩ ∧ defrosting.run.isSome = true ∧ trailer.run = none :=
  ⟨lotOf_ready _ _, lotOf_resolves _ .ofc, hit_record? _ _, rfl, by decide, by decide, by decide +kernel,
    by decide +kernel, by decide, rfl, rfl⟩

theorem witness_RevokeEnds :
    (lotOf defrosting).ready .cab ∧ (Subject.tag tag7).inRange = true ∧ 240 ≤ 240 ∧
      ((lotOf defrosting).received .cab).resolvesTo .cab (.tag tag7) (hit .cab (lotOf defrosting)) byTag ∧
      (hit .cab (lotOf defrosting)).record? byTag.record = some defrosting ∧ byTag.rights.defrost = true ∧
      defrosting.run.isSome = true ∧ (hit .cab lot).record? byTag.record = some trailer ∧ trailer.run = none :=
  ⟨lotOf_ready _ _, by decide, by decide, lotOf_resolves _ .cab, hit_record? _ _, rfl, rfl, hit_record? _ _, rfl⟩

/-- The bay's rights less DEFROST, for the clause of the refusal. -/
def barred : State := lot.setBay bay19 { occupant := some 0, rights := ⟨false, true, true⟩, locked := false }

theorem witness_RevokeEnds_refused :
    barred.ready .cab ∧
      (barred.received .cab).resolvesTo .cab (.bay bay19) (barred.received .cab)
        { byBay with rights := ⟨false, true, true⟩ } ∧ (barred.received .cab).record? 0 = some trailer :=
  ⟨⟨rfl, rfl, rfl⟩, ⟨rfl, by rfl⟩, by decide +kernel⟩

/-! ## Witnesses: the Yard Clock and the Check List -/

theorem witness_ClockCarriesAndIsSet_carries :
    (Clock.tick ⟨⟨24, 2, 29, 23, 59, 59⟩, 4, true⟩).ok ∧ (Clock.cold).ok ∧
      (⟨⟨99, 12, 31, 23, 59, 59⟩, 7, true⟩ : Clock).ok ∧ (⟨⟨25, 2, 28, 23, 59, 59⟩, 5, true⟩ : Clock).ok ∧
      28 = monthLength 25 2 := by
  refine ⟨⟨?_, ?_, ?_⟩, ⟨?_, ?_, ?_⟩, ⟨?_, ?_, ?_⟩, ⟨?_, ?_, ?_⟩, ?_⟩ <;> decide

theorem witness_ClockCarriesAndIsSet :
    lot.ready .ofc ∧ (⟨24, 2, 29, 23, 59, 59⟩ : YardTime).inRange = true ∧ lot.clock.valid = false ∧
      lot.clock.time.second < 30 ∧
      ({ lot with clock := ⟨⟨24, 2, 29, 23, 59, 30⟩, 4, true⟩ } : State).clock.valid = true := by
  refine ⟨lotOf_ready _ _, ?_⟩
  decide +kernel

/-- A yard whose clock is valid, at 09:30 on Friday the 14th, with one plan for zone 1. -/
def planned (rule : PlanMatch) : State :=
  { lot with clock := ⟨⟨24, 6, 14, 9, 30, 0⟩, 5, true⟩, plans := lot.plans.set 0 ⟨true, .doorRound, 2, rule⟩ }

/-- The clock not valid, a plan of each form whose match is met, one whose match is not, and one that is not active. -/
theorem witness_PlansAreTested :
    ¬ (lot.clock.valid = true ∧ lot.supply = .inService) ∧
      (∀ rule, (planned rule).clock.valid = true ∧ (planned rule).supply = .inService ∧
        (planned rule).clock.time.minute = 30 ∧ (planned rule).clock.time.hour = 9 ∧ (planned rule).clock.weekday = 5 ∧
        (planned rule).clock.time.day = 14) ∧
      (planned (.every 30)).plans[(0 : Fin 8)] = ⟨true, .doorRound, 2, .every 30⟩ ∧ (9 * 60 + 30) % 30 = 0 ∧
      (planned (.atTime 30 9 5 1 .whm)).plans[(0 : Fin 8)].rule = .atTime 30 9 5 1 .whm ∧
      (planned (.atTime 30 9 1 14 .dhm)).plans[(0 : Fin 8)].rule = .atTime 30 9 1 14 .dhm ∧
      (9 * 60 + 30) % 60 ≠ 0 ∧ (planned (.every 60)).plans[(1 : Fin 8)].active = false := by
  refine ⟨by decide +kernel, fun rule => ⟨rfl, rfl, rfl, rfl, rfl, rfl⟩, ?_⟩
  decide +kernel

theorem witness_CheckListTakesAndOrders :
    ({ lot with checks := [doorItem] } : State).checks = [] ++ doorItem :: [] ∧ doorItem.isFor tag7 .door = true ∧
      (∀ x ∈ lot.checks, ¬ x.isFor tag7 .door) ∧ lot.checks.length < 64 ∧
      (∀ x ∈ List.replicate 64 doorItem, ¬ x.isFor tag7 .fuel) ∧ 64 ≤ (List.replicate 64 doorItem).length := by
  decide +kernel

theorem witness_ChecksAreAddedAndClosed :
    lot.ready Master.ofc.port ∧ (lot.received Master.ofc.port).resolvesTo .ofc (.tag tag7) (hit .ofc lot) byTag ∧
      (hit .ofc lot).record? byTag.record = some trailer ∧ (∀ x ∈ lot.checks, ¬ x.isFor trailer.tag .door) ∧
      lot.checks.length < 64 :=
  ⟨lotOf_ready _ _, lotOf_resolves _ .ofc, hit_record? _ _, by decide +kernel, by decide +kernel⟩

/-- The yard with a door item and a fuel item on the list. -/
def listed : State := { lot with checks := [doorItem, { doorItem with kind := .fuel, serial := 1 }], nextSerial := 2 }

theorem witness_ChecksAreAddedAndClosed_close :
    listed.ready Master.pat.port ∧ byTag.rights.check = true ∧
      (listed.received Master.pat.port).resolvesTo .pat (.tag tag7) (hit .pat listed) byTag ∧
      (hit .pat listed).record? byTag.record = some trailer ∧ (∃ x ∈ listed.checks, x.isFor tag7 .door) ∧
      (∃ x ∈ listed.checks, x.isFor tag7 .fuel) :=
  ⟨⟨rfl, rfl, rfl⟩, rfl, Prod.ext rfl (by decide +kernel), by decide +kernel, by decide +kernel, by decide +kernel⟩

theorem witness_NextCheckIssues :
    listed.ready .pat ∧ (listed.checks.filter fun x => !x.isPending).length < 4 ∧
      (issueOrder listed.checks).find? CheckItem.isPending = some doorItem ∧
      (listed.received .pat).lookup (.master .pat) doorItem.tag = (hit .pat listed, .found byTag) ∧
      byTag.rights.check = true ∧
      4 ≤ ((List.replicate 4 { doorItem with state := .issued doorItem.createdAt 0 }).filter
        fun x : CheckItem => !x.isPending).length ∧
      (∀ x ∈ List.replicate 3 { doorItem with state := .issued doorItem.createdAt 0 }, CheckItem.isPending x = false) :=
  ⟨⟨rfl, rfl, rfl⟩, by decide +kernel, by decide +kernel, Prod.ext rfl (by decide +kernel), rfl, by decide +kernel,
    by decide +kernel⟩

/-! ## Witnesses: notices -/

theorem witness_EventReachesItsMasters :
    lot.links[(EventKind.refuelSeen).index].action = .none ∧ (Detail.refuelSeen (some 5)).kind = .refuelSeen ∧
      (List.replicate 15 notice).length < 16 ∧ 16 ≤ (List.replicate 16 notice).length := by decide +kernel

/-- Each action, an event of a trailer and one of none, and an item refused by a list of 64 and one that is not. -/
theorem witness_EventReachesItsMasters_items :
    lot.links[(EventKind.doorOpenLong).index].action = .doorCheckUrgent ∧
      lot.links[(EventKind.fuelLow).index].action = .fuelCheckUrgent ∧
      (Event.mk (.trailer tag7 bay19 0) (.doorOpenLong 20)).subject = .trailer tag7 bay19 0 ∧
      (Detail.doorOpenLong 20).kind = .doorOpenLong ∧ (Detail.fuelLow 3 none).kind = .fuelLow ∧
      (State.tryAdd ⟨tag7, 0, .fuel, .urgent, .manual, notice.stamp⟩
        { lot with checks := List.replicate 64 doorItem }).2 = .refused ∧
      (State.tryAdd ⟨tag7, 0, .fuel, .urgent, .manual, notice.stamp⟩ lot).2 ≠ .refused ∧
      lot.record? 0 = some trailer := by decide +kernel

theorem witness_NoticesAreFetchedAndHeld :
    lot.ready Master.ofc.port ∧ (lot.desk .ofc).notices = [] ∧
      ((lot.setDesk .ofc { Desk.cold with notices := [notice] }).desk .ofc).notices = notice :: [] ∧
      notice.record = some 0 ∧ State.reset.record? 0 = none ∧ lot.record? 0 = some trailer ∧
      some trailer.tag = notice.tag ∧ notice.detail.kind = .fuelLow ∧
      ({ lot with queue := [⟨0, 5, false, 1, 4⟩] } : State).queue = [⟨0, 5, false, 1, 4⟩] := by
  refine ⟨lotOf_ready _ _, ?_⟩
  decide +kernel

theorem witness_NoticesAreFetchedAndHeld_windows :
    lot.ready Master.cab.port ∧ (lot.desk .cab).window = none ∧
      ((lot.setDesk .cab { Desk.cold with window := some 59 }).desk .cab).window = some 59 ∧
      ({ lot with settings := { lot.settings with attention := .all .pulse } } : State).settings.attention.get .cab =
        .pulse := by
  refine ⟨lotOf_ready _ _, ?_⟩
  decide +kernel

/-! ## Witnesses: the second tick -/

theorem witness_SecondTickCounts : lot.supply = .inService ∧ lot.due = [] := ⟨rfl, rfl⟩

theorem witness_SecondTickBringsAbout :
    lot.supply = .inService ∧ lot.due = [] ∧ exec .secondTick lot = .next (after .secondTick lot) := ⟨rfl, rfl, rfl⟩

theorem witness_RecordConsequencesAct :
    lot.record? 0 = some trailer ∧ TickEvent.silent 0 ∈ ({ lot with due := [.silent 0] } : State).due ∧
      trailer.unitState ≠ .stale ∧
      TickEvent.unconfirmed 0 ∈ ({ lot with due := [.doorLong 0, .unconfirmed 0] } : State).due ∧
      ({ trailer with slot := .sentNext flight .fansOff } : TrailerRecord).slot = .sentNext flight .fansOff := by
  decide +kernel

theorem witness_RecordConsequencesAct_defrost :
    heating.record? 0 = some defrosting ∧
      TickEvent.abandon 0 ∈ ({ heating with due := [.abandon 0, .timeOut 0, .waitOver 0] } : State).due ∧
      TickEvent.timeOut 0 ∈ ({ heating with due := [.abandon 0, .timeOut 0, .waitOver 0] } : State).due ∧
      TickEvent.waitOver 0 ∈ ({ heating with due := [.abandon 0, .timeOut 0, .waitOver 0] } : State).due := by
  decide +kernel

/-- An ISSUED item, at each reissue count. -/
def issuedItem (n : Nat) : CheckItem := { doorItem with state := .issued doorItem.createdAt 1800, reissues := n }

theorem witness_RoundConsequencesAct :
    (∀ n, ({ lot with checks := [issuedItem n] } : State).checks = [] ++ issuedItem n :: []) ∧
      (∀ n, (issuedItem n).record = 0 ∧ (issuedItem n).kind = .door ∧ (issuedItem n).isPending = false) ∧
      (issuedItem 1).reissues < 2 ∧ (issuedItem 2).reissues = 2 ∧ (issuedItem 3).reissues = 3 ∧
      lot.record? 0 = some trailer ∧
      ((lot.setDesk .pat { Desk.cold with window := some 60 }).desk .pat).window = some 60 := by
  refine ⟨fun n => rfl, fun n => ⟨rfl, rfl, rfl⟩, ?_⟩
  decide +kernel

/-! ## Witnesses: supplies and restarts -/

/-- The part in STANDBY. -/
def dark (cold : Bool) : State := { lot.failMains with coldPending := cold }

theorem witness_SupplyMovesAndStands :
    lot.due = [] ∧ lot.supply = .inService ∧ lot.loseSupply.supply = .unpowered ∧ lot.loseSupply.due = [] ∧
      (dark true).supply = .standby ∧ (dark true).coldPending = true ∧ (dark false).coldPending = false ∧
      (dark false).due = [] ∧ (dark false).supply ≠ .inService := by decide +kernel

theorem witness_ColdStartValues : (dark true).supply = .standby ∧ (dark true).coldPending = true ∧ (dark true).due = [] := by
  decide +kernel

theorem witness_MainsReturnRestarts :
    (dark false).supply = .standby ∧ (dark false).coldPending = false ∧ (dark false).due = [] := by decide +kernel

theorem witness_YardRestartActsAndCausesStand_due :
    lot.due = [] ∧ lot.supply = .inService ∧ lot.restartDue = false ∧
      ({ lot with restartDue := true } : State).restartDue = true := by decide +kernel

theorem witness_YardRestartActsAndCausesStand :
    (dark false).due = [] ∧ (dark false).supply = .standby ∧
      exec (.mfailReleased true) (dark false) = .next (after (.mfailReleased true) (dark false)) ∧
      exec (.restartAct false) { lot with restartDue := true } =
        .next (after (.restartAct false) { lot with restartDue := true }) ∧
      mayRestart .secondTick = false ∧ exec .secondTick lot = .next (after .secondTick lot) ∧
      lot.ready Master.cab.port := ⟨rfl, rfl, rfl, rfl, rfl, rfl, lotOf_ready _ _⟩

/-! ## Witnesses: invariants, at a yard that is not the one of reset -/

/-- The yard with a second tick waiting. -/
def ticking (s : State) : State := { s with pending := [.secondTick] }

theorem step_ticking (s : State) : step (ticking s) = .next (after .secondTick { s with pending := [] }) := rfl

theorem witness_CapacityIsKept : (ticking lot).withinCapacity := by
  refine ⟨by decide +kernel, ?_, by decide +kernel⟩
  intro m
  cases m <;> decide +kernel

theorem witness_ChainsAreKept : (ticking (lotOf defrosting)).chainsOk := by
  intro i r h
  obtain ⟨-, rfl⟩ := lotOf_record? _ _ _ h
  exact ⟨⟨rfl, by decide, by decide⟩, by decide⟩

/-- The yard with the trailer's translation cached and a request of PAT's waiting for another tag's search. -/
def lookingUp : State := ticking (searching (.master .pat) 5 (.waiting (.request (.holdSet (.tag 5)))))

theorem witness_MapIsKept : lookingUp.mapOk ∧ lookingUp.cacheOk ∧ lookingUp.searchesOk := by
  have only : ∀ i r, lookingUp.record? i = some r → i = 0 ∧ r = trailer := fun i r h => lotOf_record? _ _ _ h
  have placed : lookingUp.record? 0 = some trailer := by decide +kernel
  refine ⟨⟨?_, ?_, ?_⟩, ⟨?_, ?_, by decide +kernel⟩, by decide, ?_, ?_⟩
  · intro i r h
    obtain ⟨rfl, rfl⟩ := only _ _ h
    decide +kernel
  · intro b i h
    obtain ⟨rfl, rfl⟩ := lotOf_bayAt trailer _ _ h
    exact ⟨trailer, placed, rfl⟩
  · intro i j r x hi hj _
    exact (only _ _ hi).1.trans (only _ _ hj).1.symm
  · intro k w e h
    have cached : ∀ k w : Fin 4, lookingUp.cache[k].ways[w] =
        if k = tagSet tag7 ∧ w = 0 then some ⟨tag7, 0, bay19, Rights.all⟩ else none := by decide +kernel
    rw [cached] at h
    split at h
    · next at_ =>
      cases h
      exact ⟨at_.1.symm, trailer, placed, rfl, rfl⟩
    · cases h
  · intro k v w a b hv hw _
    have cached : ∀ k v w : Fin 4, (lookingUp.cache[k].ways[v]).isSome → (lookingUp.cache[k].ways[w]).isSome → v = w := by
      decide +kernel
    exact cached k v w (by rw [hv]; rfl) (by rw [hw]; rfl)
  · intro h
    cases h
  · intro q h
    obtain rfl := List.mem_singleton.mp h
    refine ⟨fun w => (by cases w), ?_⟩
    intro m w
    cases w
    refine ⟨.request (.holdSet (.tag 5)), rfl, ?_⟩
    rintro req h
    cases h
    rfl

theorem witness_BudgetsAreKept :
    (ticking heating).chainsOk ∧ (ticking heating).queueOk ∧ (ticking heating).feedersOk := by
  have only : ∀ i r, (ticking heating).record? i = some r → i = 0 ∧ r = defrosting :=
    fun i r h => lotOf_record? _ _ _ h
  refine ⟨?_, ?_, by decide +kernel, ?_, ?_, by decide +kernel⟩
  · intro i r h
    obtain ⟨-, rfl⟩ := only _ _ h
    exact ⟨⟨rfl, by decide, by decide⟩, by decide⟩
  · intro e h
    cases h
  · intro g h
    cases List.mem_singleton.mp h
    exact ⟨defrosting, _, by decide +kernel, rfl, rfl, rfl, rfl⟩
  · intro i r h _
    obtain ⟨rfl, -⟩ := only _ _ h
    exact ⟨_, List.mem_singleton.mpr rfl, rfl⟩

theorem witness_EstimatesAndClockAreKept :
    (ticking lot).heldOk ∧ (ticking lot).estimatesOk ∧ (ticking lot).clock.ok := by
  refine ⟨?_, ?_, by decide, by decide, by decide⟩
  · intro p req h
    cases p <;> cases h
  · intro i r h
    obtain ⟨-, rfl⟩ := lotOf_record? _ _ _ h
    refine ⟨by decide, ?_, by decide, by decide, by decide⟩
    intro p hp
    cases hp

theorem witness_LinesAndSilenceAreKept :
    (ticking lot).linesOk ∧ (ticking lot).quietOut ∧ (ticking (dark false)).quietOut ∧
      (ticking (dark false)).supply ≠ .inService := by
  refine ⟨?_, ?_, ?_, by decide⟩
  · intro _ m _
    cases m <;> rfl
  · intro h
    exact absurd rfl h
  · intro _
    refine ⟨rfl, rfl, rfl, rfl, rfl, rfl, ?_⟩
    intro m
    cases m <;> rfl

/-- The words of the statements name what they should: a port that is working is not ready. -/
theorem test_busy_port_is_not_ready : ¬ (lot.setActivity .ofc (.answeringBusy 50)).ready .ofc := by
  rintro ⟨-, h, -⟩
  cases h

end Sys2Proof.Tests
end

section
/-! # The Link Front: frames as the part takes them -/

namespace Sys2Proof.Machine

open Sys2Proof

/-! ## Kinds and their codes -/

@[simp] theorem Kind.ofCode_code (k : Kind) : Kind.ofCode k.code = some k := by cases k <;> rfl

/-- A kind byte names at most one kind, the one whose code it is. -/
theorem Kind.eq_code_of_ofCode {b : Byte} {k : Kind} (h : Kind.ofCode b = some k) : b = k.code := by
  unfold Kind.ofCode at h
  split at h <;> cases h <;> exact BitVec.eq_of_toNat_eq ‹_›

/-! ## Frames on a ready port -/

/-- The row of a kind is a frame of that kind, taken once what the last tick brought about is settled. -/
theorem exec_frameCommand (p : PortId) (k : Kind) (body : List Byte) (s : State) :
    exec (frameCommand p k.code body) s = .next (State.receiveFrame p k.code body s.settle) := by
  cases k <;> rfl

/-- In service a complete frame leaves the receiver HUNTING, and is judged on a FREE port and discarded on any other. -/
theorem receiveFrame_inService {s : State} (h : s.supply = .inService) (p : PortId) (kind : Byte) (body : List Byte) :
    State.receiveFrame p kind body s =
      if (s.port p).activity = .free then (s.received p).judgeFrame p kind body else (s.received p).oweBusy p kind := by
  simp only [State.receiveFrame, if_pos h, State.port_setPort_self]
  split <;> rename_i activity <;> simp [activity, State.received]

/-- Out of service no frame is taken. -/
theorem receiveFrame_outOfService {s : State} (h : s.supply ≠ .inService) (p : PortId) (kind : Byte) (body : List Byte) :
    State.receiveFrame p kind body s = s := if_neg h

theorem receiveFrame_of_ready {p : PortId} {s : State} (h : s.ready p) (kind : Byte) (body : List Byte) :
    State.receiveFrame p kind body s.settle = (s.received p).judgeFrame p kind body := by
  obtain ⟨hsupply, hfree, hdue⟩ := h
  rw [State.settle_of_nothing_due hdue, receiveFrame_inService hsupply, if_pos hfree]

theorem exec_frameCommand_of_ready {p : PortId} {s : State} (h : s.ready p) (k : Kind) (body : List Byte) :
    exec (frameCommand p k.code body) s = .next ((s.received p).judgeFrame p k.code body) := by
  rw [exec_frameCommand, receiveFrame_of_ready h]

end Sys2Proof.Machine
end

section
/-! # Request bodies: what is written reads back -/

namespace Sys2Proof.Machine

open Sys2Proof

/-! ## Single fields -/

theorem byteOf_toNat {n : Nat} (h : n < 256) : (byteOf n).toNat = n := by
  simp [byteOf, Nat.mod_eq_of_lt h]

theorem finOf_byteOf {n : Nat} (hn : n ≤ 256) (x : Fin n) : finOf n (byteOf x.val) = some x := by
  have hx : (byteOf x.val).toNat = x.val := byteOf_toNat (by omega)
  simp [finOf, hx]

theorem within_of {lo hi n : Nat} (hlo : lo ≤ n) (hhi : n ≤ hi) : within lo hi n = some n := by
  simp [within, hlo, hhi]

theorem within_byteOf {lo hi n : Nat} (hlo : lo ≤ n) (hhi : n ≤ hi) (h : hi < 256) :
    within lo hi (byteOf n).toNat = some n := by
  rw [byteOf_toNat (by omega), within_of hlo hhi]

theorem word16_bytes16 {n : Nat} (h : n ≤ 65535) : word16 (byteOf (n / 256)) (byteOf (n % 256)) = n := by
  rw [word16, byteOf_toNat (by omega), byteOf_toNat (by omega)]
  omega

theorem flagOf_flagByte (b : Bool) : flagOf (flagByte b) = some b := by cases b <;> rfl

theorem rightsOf_byte (r : Rights) : rightsOf r.byte = some r := by
  obtain ⟨a, b, c⟩ := r
  cases a <;> cases b <;> cases c <;> rfl

theorem notifyOf_threeBits (n : PerMaster Bool) : notifyOf (threeBits n.ofc n.cab n.pat) = some n := by
  obtain ⟨a, b, c⟩ := n
  cases a <;> cases b <;> cases c <;> rfl

theorem tagOf_tagBytes (t : Tag) :
    tagOf (t.extractLsb' 24 8) (t.extractLsb' 16 8) (t.extractLsb' 8 8) (t.extractLsb' 0 8) = t := by
  rw [tagOf, BitVec.extractLsb'_append_extractLsb'_eq_extractLsb' (start₂ := 24) (start₁ := 16) (len₁ := 8) rfl,
    BitVec.extractLsb'_append_extractLsb'_eq_extractLsb' (start₂ := 16) (start₁ := 8) (len₁ := 8) rfl,
    BitVec.extractLsb'_append_extractLsb'_eq_extractLsb' (start₂ := 8) (start₁ := 0) (len₁ := 8) rfl]
  exact BitVec.extractLsb'_eq_self

theorem signed16_signedBytes {x : Int} (hlo : -32768 ≤ x) (hhi : x ≤ 32767) :
    signed16 ((BitVec.ofInt 16 x).extractLsb' 8 8) ((BitVec.ofInt 16 x).extractLsb' 0 8) = x := by
  rw [signed16, BitVec.extractLsb'_append_extractLsb'_eq_extractLsb' (start₂ := 8) (start₁ := 0) (len₁ := 8) rfl,
    BitVec.extractLsb'_eq_self, BitVec.toInt_ofInt]
  exact Int.bmod_eq_of_le (by omega) (by omega)

theorem tagField_tagBytes {t : Tag} (h : t ≠ 0) :
    tagField (t.extractLsb' 24 8) (t.extractLsb' 16 8) (t.extractLsb' 8 8) (t.extractLsb' 0 8) = some t := by
  rw [tagField, tagOf_tagBytes, if_neg h]

theorem bayField_bayBytes (b : BayAddr) : bayField (byteOf b.zone.val) (byteOf b.bay.val) = some b := by
  simp [bayField, finOf_byteOf]

theorem sourceOf_byte (x : Source) : sourceOf x.byte = some x := by cases x <;> rfl

theorem checkKindOf_byte (k : CheckKind) : checkKindOf (checkKindByte k) = some k := by cases k <;> rfl

theorem priorityOf_byte (p : Priority) : priorityOf p.byte = some p := by cases p <;> rfl

theorem planKindOf_byte (k : PlanKind) : planKindOf k.byte = some k := by cases k <;> rfl

theorem collationOf_byte (x : Collation) : collationOf x.byte = some x := by cases x <;> rfl

theorem actionOf_byte (a : LinkAction) : actionOf a.byte = some a := by cases a <;> rfl

theorem attentionOf_byte (a : AttentionMode) : attentionOf a.byte = some a := by cases a <;> rfl

theorem eventKindOf_index (k : EventKind) : eventKindOf (byteOf k.index.val) = some k := by cases k <;> rfl

theorem feederChoiceOf_byte (x : FeederChoice) : feederChoiceOf (feederChoiceByte x) = some x := by
  cases x with
  | none => rfl
  | some f => revert f; decide

theorem monthLength_le (year month : Nat) : monthLength year month ≤ 31 := by
  unfold monthLength
  split
  · split <;> decide
  all_goals decide

/-! ## Groups of fields -/

/-- A subject takes five bytes, which read back as it. -/
theorem subjectField_bytes {n : Subject} (h : n.inRange) :
    ∃ f a b c d, n.bytes = [f, a, b, c, d] ∧ subjectField f a b c d = some n := by
  cases n with
  | tag t =>
    refine ⟨_, _, _, _, _, rfl, ?_⟩
    have ht : t ≠ 0 := by simpa [Subject.inRange] using h
    show (tagField _ _ _ _).map Subject.tag = _
    rw [tagField_tagBytes ht]
    rfl
  | bay b =>
    refine ⟨_, _, _, _, _, rfl, ?_⟩
    show (bayField _ _).map Subject.bay = _
    rw [bayField_bayBytes]
    rfl

/-- An optional one-byte field takes two bytes, which read back as it. -/
theorem optionalField_byte {α : Type} (x : Option α) (write : α → Byte) (read : Byte → Option α)
    (h : ∀ a ∈ x, read (write a) = some a) :
    ∃ p b, optionalByte (x.map write) = [p, b] ∧ optionalField p (read b) = some x := by
  cases x with
  | none => exact ⟨0, 0, rfl, rfl⟩
  | some a => exact ⟨1, write a, rfl, by simp [optionalField, h a rfl]⟩

/-- An optional two-byte field takes three bytes, which read back as it. -/
theorem optionalField_bytes16 {x : Option Nat} {lo hi : Nat} (hhi : hi ≤ 65535) (h : ∀ n ∈ x, lo ≤ n ∧ n ≤ hi) :
    ∃ p a b, optionalBytes16 x = [p, a, b] ∧ optionalField p (within lo hi (word16 a b)) = some x := by
  cases x with
  | none => exact ⟨0, 0, 0, rfl, rfl⟩
  | some n =>
    obtain ⟨hlo, hn⟩ := h n rfl
    refine ⟨1, _, _, rfl, ?_⟩
    simp [optionalField, word16_bytes16 (hn.trans hhi), within_of hlo hn]

/-- An optional heater load in range reads back. -/
theorem optionalField_load {load : Option Nat} (h : loadInRange load) :
    ∃ p b, optionalByte (load.map byteOf) = [p, b] ∧ optionalField p (within 10 250 b.toNat) = some load := by
  refine optionalField_byte load byteOf (fun b => within 10 250 b.toNat) fun n hn => ?_
  obtain rfl : load = some n := hn
  have range : 10 ≤ n ∧ n ≤ 250 := by simpa [loadInRange] using h
  exact within_byteOf range.1 range.2 (by decide)

theorem planMatchField_bytes {m : PlanMatch} (h : m.inRange) :
    ∃ a b c d e f g, m.bytes = [a, b, c, d, e, f, g] ∧ planMatchField a b c d e f g = some m := by
  cases m with
  | every period =>
    have mem : period ∈ periods := by simpa [PlanMatch.inRange] using h
    have small : ∀ n ∈ periods, n < 256 := by decide
    refine ⟨_, _, _, _, _, _, _, rfl, ?_⟩
    simp [planMatchField, byteOf_toNat (small _ mem), mem]
  | atTime minute hour weekday day range =>
    simp only [PlanMatch.inRange, Bool.and_eq_true, decide_eq_true_eq] at h
    obtain ⟨⟨⟨⟨⟨hminute, hhour⟩, hwd1⟩, hwd7⟩, hday1⟩, hday31⟩ := h
    refine ⟨_, _, _, _, _, _, _, rfl, ?_⟩
    simp [planMatchField, within_byteOf (Nat.zero_le _) hminute, within_byteOf (Nat.zero_le _) hhour,
      within_byteOf hwd1 hwd7, within_byteOf hday1 hday31, collationOf_byte]

theorem resultField_bytes {x : CloseResult} (h : ∀ level refuelled, x = .fuel level refuelled → level ≤ 100) :
    ∃ a b c, x.bytes = [a, b, c] ∧ resultField a b c = some x := by
  cases x with
  | secure => exact ⟨0, 0, 0, rfl, rfl⟩
  | ajar => exact ⟨0, 1, 0, rfl, rfl⟩
  | damaged => exact ⟨0, 2, 0, rfl, rfl⟩
  | fuel level refuelled =>
    have fuelByte : checkKindOf 1#8 = some .fuel := rfl
    refine ⟨_, _, _, rfl, ?_⟩
    simp [resultField, fuelByte, within_byteOf (Nat.zero_le _) (h level refuelled rfl), flagOf_flagByte]

theorem settingField_bytes {v : SettingValue} (h : v.inRange) :
    ∃ a b, v.bytes = [a, b] ∧ settingField a b = some v := by
  cases v with
  | strict on => exact ⟨_, _, rfl, by simp [settingField, flagOf_flagByte]⟩
  | humidityFallback n =>
    have hn : n ≤ 100 := by simpa [SettingValue.inRange] using h
    exact ⟨_, _, rfl, by simp [settingField, within_byteOf (Nat.zero_le _) hn]⟩
  | doorWeight n =>
    have hn : n ≤ 255 := by simpa [SettingValue.inRange] using h
    exact ⟨_, _, rfl, by simp [settingField, byteOf_toNat (show n < 256 by omega)]⟩
  | checkTimeout n =>
    have hn : 5 ≤ n ∧ n ≤ 120 := by simpa [SettingValue.inRange] using h
    exact ⟨_, _, rfl, by simp [settingField, within_byteOf hn.1 hn.2]⟩
  | attention m mode => cases m <;> exact ⟨_, _, rfl, by simp [settingField, attentionOf_byte]⟩

/-- The fields of Table 1-1 in range read back. -/
theorem zoneField_bytes {e : Zone} (h : e.inRange) : zoneField e.bytes = some e := by
  simp only [Zone.inRange, Bool.and_eq_true, decide_eq_true_eq] at h
  obtain ⟨⟨⟨⟨⟨⟨⟨⟨⟨⟨⟨⟨⟨⟨⟨hthr, hthr'⟩, hmax⟩, hmax'⟩, hterm⟩, hterm'⟩, hhold⟩, hhold'⟩, hdoor⟩, hdoor'⟩, hmargin⟩, hmargin'⟩,
    hfloor⟩, hfloor'⟩, hload⟩, hload'⟩ := h
  simp [Zone.bytes, bytes16, signedBytes, zoneField, flagOf_flagByte, finOf_byteOf, rightsOf_byte, word16_bytes16 hthr',
    word16_bytes16 (show e.fuelMargin ≤ 65535 by omega), within_byteOf hmax hmax', within_byteOf hhold hhold',
    within_byteOf hdoor hdoor', within_byteOf hfloor hfloor', within_byteOf hload hload',
    signed16_signedBytes (show -32768 ≤ e.terminationTemp by omega) (show e.terminationTemp ≤ 32767 by omega),
    within_of hthr hthr', within_of hmargin hmargin', withinInt, hterm, hterm']

/-! ## The reading of each kind of body -/

theorem parse_zoneSet (z : Byte) (rest : List Byte) :
    Request.parse .zoneSet (z :: rest) = (do pure (.zoneSet (← finOf 8 z) (← zoneField rest))) := rfl

theorem parse_zoneGet (z : Byte) : Request.parse .zoneGet [z] = (finOf 8 z).map .zoneGet := rfl

theorem parse_baySet (z b rights locked : Byte) :
    Request.parse .baySet [z, b, rights, locked] =
      (do pure (.baySet (← bayField z b) (← rightsOf rights) (← flagOf locked))) := rfl

theorem parse_place (t3 t2 t1 t0 z b hasSource source hasLoad load : Byte) :
    Request.parse .place [t3, t2, t1, t0, z, b, hasSource, source, hasLoad, load] = (do
      pure (.place (← tagField t3 t2 t1 t0) (← bayField z b) (← optionalField hasSource (sourceOf source))
        (← optionalField hasLoad (within 10 250 load.toNat)))) := rfl

theorem parse_move (t3 t2 t1 t0 z b : Byte) :
    Request.parse .move [t3, t2, t1, t0, z, b] = (do pure (.move (← tagField t3 t2 t1 t0) (← bayField z b))) := rfl

theorem parse_release (t3 t2 t1 t0 : Byte) :
    Request.parse .release [t3, t2, t1, t0] = (tagField t3 t2 t1 t0).map .release := rfl

theorem parse_recordEdit (f a b c d hasLoad load hasOver o1 o0 : Byte) :
    Request.parse .recordEdit [f, a, b, c, d, hasLoad, load, hasOver, o1, o0] = (do
      pure (.recordEdit (← subjectField f a b c d) (← optionalField hasLoad (within 10 250 load.toNat))
        (← optionalField hasOver (within 50 65535 (word16 o1 o0))))) := rfl

theorem parse_scanChanged (start : Byte) : Request.parse .scanChanged [start] = (finOf 48 start).map .scanChanged := rfl

theorem parse_clockSet (fields : List Byte) :
    Request.parse .clockSet fields = (clockField fields).map fun x => .clockSet x.1 x.2 := rfl

theorem parse_planSet (p active kind mask choice period minute hour weekday day range : Byte) :
    Request.parse .planSet [p, active, kind, mask, choice, period, minute, hour, weekday, day, range] = (do
      let p ← finOf 8 p
      let active ← flagOf active
      let kind ← planKindOf kind
      let rule ← planMatchField choice period minute hour weekday day range
      pure (.planSet p { active := active, kind := kind, mask := mask, rule := rule })) := rfl

theorem parse_planGet (p : Byte) : Request.parse .planGet [p] = (finOf 8 p).map .planGet := rfl

theorem parse_linkSet (k notify action : Byte) :
    Request.parse .linkSet [k, notify, action] = (do
      pure (.linkSet (← eventKindOf k) { notify := ← notifyOf notify, action := ← actionOf action })) := rfl

theorem parse_linkGet (k : Byte) : Request.parse .linkGet [k] = (eventKindOf k).map .linkGet := rfl

theorem parse_configSet (setting value : Byte) :
    Request.parse .configSet [setting, value] = (settingField setting value).map .configSet := rfl

theorem parse_fuelPost (f a b c d level refuelled : Byte) :
    Request.parse .fuelPost [f, a, b, c, d, level, refuelled] = (do
      pure (.fuelPost (← subjectField f a b c d) (← within 0 100 level.toNat) (← flagOf refuelled))) := rfl

theorem parse_checkAdd (f a b c d kind priority : Byte) :
    Request.parse .checkAdd [f, a, b, c, d, kind, priority] = (do
      pure (.checkAdd (← subjectField f a b c d) (← checkKindOf kind) (← priorityOf priority))) := rfl

theorem parse_checkClose (t3 t2 t1 t0 kind r1 r0 : Byte) :
    Request.parse .checkClose [t3, t2, t1, t0, kind, r1, r0] = (do
      pure (.checkClose (← tagField t3 t2 t1 t0) (← resultField kind r1 r0))) := rfl

theorem parse_checkList (start : Byte) :
    Request.parse .checkList [start] = (within 0 63 start.toNat).map .checkList := rfl

theorem parse_queueGet (start : Byte) : Request.parse .queueGet [start] = (within 0 47 start.toNat).map .queueGet := rfl

theorem parse_feederGet (feeder start : Byte) :
    Request.parse .feederGet [feeder, start] = (do
      pure (.feederGet (← feederChoiceOf feeder) (← within 0 47 start.toNat))) := rfl

theorem parse_setBudget (feeder v1 v0 : Byte) :
    Request.parse .setBudget [feeder, v1, v0] = (finOf 4 feeder).map fun f => .setBudget f (word16 v1 v0) := rfl

theorem parse_revoke (f a b c d deferral : Byte) :
    Request.parse .revoke [f, a, b, c, d, deferral] = (do
      pure (.revoke (← subjectField f a b c d) (← within 0 240 deferral.toNat))) := rfl

/-- The six kinds whose body is a subject alone. -/
theorem parse_subject (f a b c d : Byte) :
    Request.parse .recordGet [f, a, b, c, d] = (subjectField f a b c d).map .recordGet ∧
    Request.parse .collect [f, a, b, c, d] = (subjectField f a b c d).map .collect ∧
    Request.parse .defrostRequest [f, a, b, c, d] = (subjectField f a b c d).map .defrostRequest ∧
    Request.parse .defrostCancel [f, a, b, c, d] = (subjectField f a b c d).map .defrostCancel ∧
    Request.parse .holdSet [f, a, b, c, d] = (subjectField f a b c d).map .holdSet ∧
    Request.parse .holdClear [f, a, b, c, d] = (subjectField f a b c d).map .holdClear := ⟨rfl, rfl, rfl, rfl, rfl, rfl⟩

/-! ## Bodies -/

/-- A request in range, written as the body of its kind, reads back as itself. -/
theorem Request.parse_body {req : Request} (h : req.inRange) : Request.parse req.kind req.body = some req := by
  cases req with
  | zoneSet z e =>
    have he : zoneField e.bytes = some e := zoneField_bytes h
    simp [parse_zoneSet, Request.kind, Request.body, finOf_byteOf, he]
  | zoneGet z => simp [parse_zoneGet, Request.kind, Request.body, finOf_byteOf]
  | baySet b rights locked =>
    simp [parse_baySet, Request.kind, Request.body, bayBytes, bayField_bayBytes, rightsOf_byte, flagOf_flagByte]
  | place t b source load =>
    have range : t ≠ 0 ∧ loadInRange load := by simpa [Request.inRange] using h
    obtain ⟨p, x, hsource, rsource⟩ := optionalField_byte source Source.byte sourceOf fun a _ => sourceOf_byte a
    obtain ⟨q, y, hload, rload⟩ := optionalField_load range.2
    simp [parse_place, Request.kind, Request.body, tagBytes, bayBytes, hsource, hload, tagField_tagBytes range.1,
      bayField_bayBytes, rsource, rload]
  | move t b =>
    have ht : t ≠ 0 := by simpa [Request.inRange] using h
    simp [parse_move, Request.kind, Request.body, tagBytes, bayBytes, tagField_tagBytes ht, bayField_bayBytes]
  | release t =>
    have ht : t ≠ 0 := by simpa [Request.inRange] using h
    simp [parse_release, Request.kind, Request.body, tagBytes, tagField_tagBytes ht]
  | recordEdit n load override =>
    have range : (n.inRange ∧ loadInRange load) ∧ override.all fun x => 50 ≤ x && x ≤ 65535 := by
      simpa [Request.inRange] using h
    obtain ⟨f, a, b, c, d, hn, rn⟩ := subjectField_bytes range.1.1
    obtain ⟨p, x, hload, rload⟩ := optionalField_load range.1.2
    obtain ⟨q, y, z, hover, rover⟩ := optionalField_bytes16 (x := override) (lo := 50) (le_refl 65535)
      (fun k hk => by
        obtain rfl : override = some k := hk
        simpa using range.2)
    simp [parse_recordEdit, Request.kind, Request.body, hn, hload, hover, rn, rload, rover]
  | scanChanged start => simp [parse_scanChanged, Request.kind, Request.body, finOf_byteOf]
  | clockSet t w =>
    simp only [Request.inRange, Bool.and_eq_true, decide_eq_true_eq] at h
    obtain ⟨⟨ht, hw1⟩, hw7⟩ := h
    have small : t.year < 256 ∧ t.month < 256 ∧ t.day < 256 ∧ t.hour < 256 ∧ t.minute < 256 ∧ t.second < 256 := by
      have day := monthLength_le t.year t.month
      simp only [YardTime.inRange, Bool.and_eq_true, decide_eq_true_eq] at ht
      omega
    obtain ⟨hyear, hmonth, hday, hhour, hminute, hsecond⟩ := small
    simp [parse_clockSet, Request.kind, Request.body, clockField, byteOf_toNat, hyear, hmonth, hday, hhour, hminute, hsecond,
      ht, within_byteOf hw1 hw7]
  | planSet p x =>
    obtain ⟨a, b, c, d, e, f, g, hrule, rrule⟩ := planMatchField_bytes (m := x.rule) h
    simp [parse_planSet, Request.kind, Request.body, hrule, rrule, finOf_byteOf, flagOf_flagByte, planKindOf_byte]
  | planGet p => simp [parse_planGet, Request.kind, Request.body, finOf_byteOf]
  | linkSet k e =>
    simp [parse_linkSet, Request.kind, Request.body, eventKindOf_index, notifyOf_threeBits, actionOf_byte]
  | linkGet k => simp [parse_linkGet, Request.kind, Request.body, eventKindOf_index]
  | configSet v =>
    obtain ⟨a, b, hv, rv⟩ := settingField_bytes (v := v) h
    simp [parse_configSet, Request.kind, Request.body, hv, rv]
  | fuelPost n level refuelled =>
    have range : n.inRange ∧ level ≤ 100 := by simpa [Request.inRange] using h
    obtain ⟨f, a, b, c, d, hn, rn⟩ := subjectField_bytes range.1
    simp [parse_fuelPost, Request.kind, Request.body, hn, rn, within_byteOf (Nat.zero_le _) range.2, flagOf_flagByte]
  | checkAdd n k p =>
    obtain ⟨f, a, b, c, d, hn, rn⟩ := subjectField_bytes (n := n) h
    simp [parse_checkAdd, Request.kind, Request.body, hn, rn, checkKindOf_byte, priorityOf_byte]
  | checkClose t result =>
    have range : t ≠ 0 ∧ ∀ level refuelled, result = .fuel level refuelled → level ≤ 100 := by
      cases result <;> simpa [Request.inRange] using h
    obtain ⟨a, b, c, hr, rr⟩ := resultField_bytes range.2
    simp [parse_checkClose, Request.kind, Request.body, tagBytes, hr, rr, tagField_tagBytes range.1]
  | checkList start =>
    have hs : start ≤ 63 := by simpa [Request.inRange] using h
    simp [parse_checkList, Request.kind, Request.body, within_byteOf (Nat.zero_le _) hs]
  | queueGet start =>
    have hs : start ≤ 47 := by simpa [Request.inRange] using h
    simp [parse_queueGet, Request.kind, Request.body, within_byteOf (Nat.zero_le _) hs]
  | feederGet choice start =>
    have hs : start ≤ 47 := by simpa [Request.inRange] using h
    simp [parse_feederGet, Request.kind, Request.body, feederChoiceOf_byte, within_byteOf (Nat.zero_le _) hs]
  | setBudget f value =>
    have hv : value ≤ 65535 := by simpa [Request.inRange] using h
    simp [parse_setBudget, Request.kind, Request.body, bytes16, finOf_byteOf, word16_bytes16 hv]
  | revoke n deferral =>
    have range : n.inRange ∧ deferral ≤ 240 := by simpa [Request.inRange] using h
    obtain ⟨f, a, b, c, d, hn, rn⟩ := subjectField_bytes range.1
    simp [parse_revoke, Request.kind, Request.body, hn, rn, within_byteOf (Nat.zero_le _) range.2]
  | recordGet n | collect n | defrostRequest n | defrostCancel n | holdSet n | holdClear n =>
    obtain ⟨f, a, b, c, d, hn, rn⟩ := subjectField_bytes (n := n) h
    simp [parse_subject, Request.kind, Request.body, hn, rn]
  | sweepSeen | flushTags | clockTrim | clockGet | configGet | fetchNotice | holdNotices | releaseNotices | statusGet
  | yardRestart | nextCheck => rfl

end Sys2Proof.Machine
end

section
namespace Sys2Proof.Machine

open Sys2Proof

/-! ## Body lengths -/

@[simp] theorem Subject.length_bytes (n : Subject) : n.bytes.length = 5 := by cases n <;> rfl

@[simp] theorem length_optionalByte (x : Option Byte) : (optionalByte x).length = 2 := by cases x <;> rfl

@[simp] theorem length_optionalBytes16 (x : Option Nat) : (optionalBytes16 x).length = 3 := by cases x <;> rfl

@[simp] theorem PlanMatch.length_bytes (m : PlanMatch) : m.bytes.length = 7 := by cases m <;> rfl

@[simp] theorem CloseResult.length_bytes (x : CloseResult) : x.bytes.length = 3 := by cases x <;> rfl

@[simp] theorem SettingValue.length_bytes (v : SettingValue) : v.bytes.length = 2 := by
  cases v with
  | attention m mode => cases m <;> rfl
  | _ => rfl

/-- A request's body has the length of its kind. -/
theorem Request.length_body (req : Request) : req.body.length = req.kind.bodyLength := by
  cases req <;> simp [Request.body, Request.kind, Kind.bodyLength, tagBytes, bayBytes, bytes16, Zone.bytes, signedBytes]

/-! # Requests on a ready port -/

@[simp] theorem Master.port_master (m : Master) : m.port.master = some m := by cases m <;> rfl

/-- A frame that passes the four tests of R168 on a master's port goes to its owning block. -/
theorem judgeFrame_request {m : Master} {k : Kind} {body : List Byte} {req : Request} (hport : k.allowedOn m.port)
    (hlength : body.length = k.bodyLength) (hparse : Request.parse k body = some req) (s : State) :
    s.judgeFrame m.port k.code body = State.answer m k.code (s.takeRequest m req) := by
  simp [State.judgeFrame, hport, hlength, hparse]

/-- A request in range, on a ready port that its kind is allowed on, is taken by its owning block. -/
theorem exec_request {m : Master} {req : Request} {s : State} (h : s.ready m.port) (hrange : req.inRange)
    (hport : req.kind.allowedOn m.port) :
    exec (frameCommand m.port req.kind.code req.body) s =
      .next (State.answer m req.kind.code ((s.received m.port).takeRequest m req)) := by
  rw [exec_frameCommand_of_ready h, judgeFrame_request hport req.length_body (Request.parse_body hrange)]

/-- Settles O9: a request's body has the length of its kind and is parsed back to it, so its frame passes all four tests. -/
theorem requestIsTaken : Obligations.RequestIsTaken := fun _ _ _ h hrange hport => exec_request h hrange hport

/-! # Frames that are refused or discarded -/

theorem judgeFrame_unknownKind {p : PortId} {kind : Byte} (hkind : Kind.ofCode kind = none) (body : List Byte) (s : State) :
    s.judgeFrame p kind body = s.refuse p kind .unknownKind .unknownKind := by
  rw [State.judgeFrame, hkind]

theorem judgeFrame_wrongPort {p : PortId} {k : Kind} (hport : k.allowedOn p = false) (body : List Byte) (s : State) :
    s.judgeFrame p k.code body = s.refuse p k.code .wrongPort .wrongPort := by
  simp [State.judgeFrame, hport]

theorem judgeFrame_wrongLength {p : PortId} {k : Kind} {body : List Byte} (hport : k.allowedOn p)
    (hlength : body.length ≠ k.bodyLength) (s : State) : s.judgeFrame p k.code body = s.refuse p k.code .range .range := by
  simp [State.judgeFrame, hport, hlength]

/-- A request's frame of the right length with a field out of range is refused RANGE. -/
theorem judgeFrame_outOfRange {m : Master} {k : Kind} {body : List Byte} (hport : k.allowedOn m.port)
    (hlength : body.length = k.bodyLength) (hparse : Request.parse k body = none) (s : State) :
    s.judgeFrame m.port k.code body = s.beginReply m.port k.code (.master .range) := by
  have refused : s.judgeFrame m.port k.code body = s.refuse m.port k.code .range .range := by
    simp [State.judgeFrame, hport, hlength, hparse]
  rw [refused]
  cases m <;> rfl

theorem Master.exists_port {p : PortId} (h : p ≠ .unt) : ∃ m : Master, p = m.port := by
  cases p with
  | unt => exact absurd rfl h
  | ofc => exact ⟨.ofc, rfl⟩
  | cab => exact ⟨.cab, rfl⟩
  | pat => exact ⟨.pat, rfl⟩

/-- A reply on a port that has just received writes its activity; while a restart is due the reply is not begun. -/
theorem State.beginReply_received (s : State) (p : PortId) (kind : Byte) (body : ReplyBody) :
    (s.received p).beginReply p kind body =
      (s.received p).setPort p (if s.restartDue then { s.port p with receiver := .hunting, activity := .awaitingRestart }
        else { s.port p with receiver := .hunting, activity := .replying ⟨kind, body⟩ }) := by
  have due : (s.received p).restartDue = s.restartDue := rfl
  rw [State.beginReply, State.setActivity, State.port_received_self, due]
  split <;> rfl

/-- A port that is not FREE owes a PORT_BUSY, unless it owes one already or is sending one (R169). -/
theorem State.oweBusy_received (s : State) (p : PortId) (kind : Byte) :
    (s.received p).oweBusy p kind =
      (s.received p).setPort p
        { s.port p with
          receiver := .hunting
          owed := match (s.port p).activity, (s.port p).owed with
            | .answeringBusy _, o => o
            | _, some k => some k
            | _, none => some kind } := by
  cases hactivity : (s.port p).activity with
  | answeringBusy _ => simp [State.oweBusy, State.received, hactivity]
  | free | waiting _ | replying _ | awaitingRestart =>
    cases howed : (s.port p).owed <;> simp [State.oweBusy, State.received, hactivity, howed]

/-- Settles O7: the tests of `State.judgeFrame` in turn, and `State.oweBusy` on a port that is not FREE. -/
theorem frameTestsDecide : Obligations.FrameTestsDecide := by
  refine ⟨fun p kind body s h => ⟨fun hk => ?_, fun k hk hp => ?_, fun k hk hp hl => ?_, fun k hk hp hu hl hparse => ?_⟩,
    fun p kind body s hsupply hdue hbusy => ?_⟩
  · show Host.Outcome.next (State.receiveFrame p kind body s.settle) = _
    rw [receiveFrame_of_ready h, judgeFrame_unknownKind hk]
  · obtain rfl := Kind.eq_code_of_ofCode hk
    rw [exec_frameCommand_of_ready h, judgeFrame_wrongPort hp]
  · obtain rfl := Kind.eq_code_of_ofCode hk
    rw [exec_frameCommand_of_ready h, judgeFrame_wrongLength hp hl]
  · obtain rfl := Kind.eq_code_of_ofCode hk
    obtain ⟨m, rfl⟩ := Master.exists_port hu
    rw [exec_frameCommand_of_ready h, judgeFrame_outOfRange hp hl hparse, State.beginReply_received]
  · show Host.Outcome.next (State.receiveFrame p kind body s.settle) = _
    rw [State.settle_of_nothing_due hdue, receiveFrame_inService hsupply, if_neg hbusy]
    exact congrArg Host.Outcome.next (s.oweBusy_received p kind)

end Sys2Proof.Machine
end

section
namespace Sys2Proof.Machine

open Sys2Proof

/-! ## A body is read as a request of its kind -/

/-- What is read, if anything, is a request of a kind. -/
def OfKind (k : Kind) (x : Option Request) : Prop := ∀ req, x = some req → req.kind = k

theorem ofKind_some {k : Kind} {req : Request} (h : req.kind = k) : OfKind k (some req) := by
  rintro _ ⟨⟩
  exact h

theorem ofKind_bind {α : Type} {k : Kind} (x : Option α) {f : α → Option Request} (h : ∀ a, OfKind k (f a)) :
    OfKind k (x >>= f) := by
  cases x with
  | none => exact nofun
  | some a => exact h a

theorem ofKind_map {α : Type} {k : Kind} (x : Option α) {f : α → Request} (h : ∀ a, (f a).kind = k) :
    OfKind k (x.map f) := by
  cases x with
  | none => exact nofun
  | some a => exact ofKind_some (h a)

theorem kind_of_parse {k : Kind} {body : List Byte} (hl : body.length = k.bodyLength) :
    OfKind k (Request.parse k body) := by
  cases k with
  | unitReport | poll => exact nofun
  | zoneSet =>
    match body, hl with
    | _ :: _, _ => exact ofKind_bind _ fun _ => ofKind_bind _ fun _ => ofKind_some rfl
  | baySet =>
    match body, hl with
    | [_, _, _, _], _ => exact ofKind_bind _ fun _ => ofKind_bind _ fun _ => ofKind_bind _ fun _ => ofKind_some rfl
  | place =>
    match body, hl with
    | [_, _, _, _, _, _, _, _, _, _], _ =>
      exact ofKind_bind _ fun _ => ofKind_bind _ fun _ => ofKind_bind _ fun _ => ofKind_bind _ fun _ => ofKind_some rfl
  | recordEdit =>
    match body, hl with
    | [_, _, _, _, _, _, _, _, _, _], _ =>
      exact ofKind_bind _ fun _ => ofKind_bind _ fun _ => ofKind_bind _ fun _ => ofKind_some rfl
  | move =>
    match body, hl with
    | [_, _, _, _, _, _], _ => exact ofKind_bind _ fun _ => ofKind_bind _ fun _ => ofKind_some rfl
  | revoke =>
    match body, hl with
    | [_, _, _, _, _, _], _ => exact ofKind_bind _ fun _ => ofKind_bind _ fun _ => ofKind_some rfl
  | clockSet => exact ofKind_map _ fun _ => rfl
  | planSet =>
    match body, hl with
    | [_, _, _, _, _, _, _, _, _, _, _], _ =>
      exact ofKind_bind _ fun _ => ofKind_bind _ fun _ => ofKind_bind _ fun _ => ofKind_bind _ fun _ => ofKind_some rfl
  | linkSet =>
    match body, hl with
    | [_, _, _], _ => exact ofKind_bind _ fun _ => ofKind_bind _ fun _ => ofKind_bind _ fun _ => ofKind_some rfl
  | setBudget =>
    match body, hl with
    | [_, _, _], _ => exact ofKind_map _ fun _ => rfl
  | fuelPost | checkAdd =>
    match body, hl with
    | [_, _, _, _, _, _, _], _ =>
      exact ofKind_bind _ fun _ => ofKind_bind _ fun _ => ofKind_bind _ fun _ => ofKind_some rfl
  | checkClose =>
    match body, hl with
    | [_, _, _, _, _, _, _], _ => exact ofKind_bind _ fun _ => ofKind_bind _ fun _ => ofKind_some rfl
  | feederGet =>
    match body, hl with
    | [_, _], _ => exact ofKind_bind _ fun _ => ofKind_bind _ fun _ => ofKind_some rfl
  | configSet =>
    match body, hl with
    | [_, _], _ => exact ofKind_map _ fun _ => rfl
  | release =>
    match body, hl with
    | [_, _, _, _], _ => exact ofKind_map _ fun _ => rfl
  | recordGet | collect | defrostRequest | defrostCancel | holdSet | holdClear =>
    match body, hl with
    | [_, _, _, _, _], _ => exact ofKind_map _ fun _ => rfl
  | zoneGet | scanChanged | planGet | linkGet | checkList | queueGet =>
    match body, hl with
    | [_], _ => exact ofKind_map _ fun _ => rfl
  | sweepSeen | flushTags | clockTrim | clockGet | configGet | fetchNotice | holdNotices | releaseNotices | statusGet
  | yardRestart | nextCheck =>
    match body, hl with
    | [], _ => exact ofKind_some rfl

/-- A PLACE read from a body is of a tag, not the zero tag. -/
theorem tag_ne_zero_of_parse {k : Kind} {body : List Byte} {t : Tag} {b : BayAddr} {source : Option Source}
    {load : Option Nat} (hl : body.length = k.bodyLength) (h : Request.parse k body = some (.place t b source load)) :
    t ≠ 0 := by
  obtain rfl : Kind.place = k := kind_of_parse hl _ h
  match body, hl, h with
  | [t3, t2, t1, t0, _, _, _, _, _, _], _, h =>
    rw [parse_place] at h
    simp only [Option.bind_eq_bind, Option.bind_eq_some_iff, Option.pure_def, Option.some.injEq, Request.place.injEq] at h
    obtain ⟨u, hu, _, -, _, -, _, -, rfl, -⟩ := h
    unfold tagField at hu
    split at hu
    · cases hu
    · next hne =>
      cases hu
      exact hne

end Sys2Proof.Machine
end

section
/-! # Who is placed where: what no operation but PLACE, MOVE and RELEASE changes -/

namespace Sys2Proof.Machine

open Sys2Proof

/-- The tag and the bay of each placed record. -/
def State.placements (s : State) : RecIdx → Option (Tag × BayAddr) := fun i => (s.record? i).map fun r => (r.tag, r.bay)

theorem State.placements_eq_some {s : State} {i : RecIdx} {t : Tag} {b : BayAddr} :
    s.placements i = some (t, b) ↔ ∃ r, s.record? i = some r ∧ r.tag = t ∧ r.bay = b := by
  simp [State.placements]

theorem placements_of_records {s t : State} (h : s.records = t.records) : s.placements = t.placements := by
  funext i
  simp only [State.placements, State.record?, h]

theorem placements_of_outsideNotices {s t : State} (h : s.outsideNotices = t.outsideNotices) :
    s.placements = t.placements := by
  have records : s.outsideNotices.records = t.outsideNotices.records := congrArg State.records h
  exact placements_of_records records

/-! ## Records, chains and commands -/

theorem TrailerRecord.marking_tag (old new : TrailerRecord) : (old.marking new).tag = new.tag := by
  unfold TrailerRecord.marking
  split <;> rfl

theorem TrailerRecord.marking_bay (old new : TrailerRecord) : (old.marking new).bay = new.bay := by
  unfold TrailerRecord.marking
  split <;> rfl

/-- A change of a record that keeps its tag and bay moves nothing. -/
theorem State.updRecord_placements (i : RecIdx) (f : TrailerRecord → TrailerRecord)
    (s : State) (hf : ∀ r, (f r).tag = r.tag ∧ (f r).bay = r.bay := by exact fun _ => ⟨rfl, rfl⟩) :
    (s.updRecord i f).placements = s.placements := by
  unfold State.updRecord
  split
  · rfl
  · next r hr =>
    funext j
    obtain ⟨htag, hbay⟩ := hf r
    by_cases hij : i = j
    · subst hij
      simp [State.placements, hr, TrailerRecord.marking_tag, TrailerRecord.marking_bay, htag, hbay]
    · simp [State.placements, State.record?_setRecord_ne _ _ hij]

theorem State.queueCommand_placements (i : RecIdx) (c : Command) (s : State) :
    (s.queueCommand i c).placements = s.placements :=
  s.updRecord_placements i (fun r => { r with slot := .queued c })

theorem State.handOff_placements (i : RecIdx) (w : Command) (s : State) : (s.handOff i w).placements = s.placements := by
  unfold State.handOff
  split
  · rfl
  · split
    · rfl
    · split
      · exact s.queueCommand_placements i w
      · exact s.updRecord_placements i _
      · split
        · rfl
        · exact s.updRecord_placements i _
      · split <;> exact s.updRecord_placements i _

theorem State.pushActivity_placements (i : RecIdx) (k : Activity) (setBy : Option Master) (s : State) :
    (s.pushActivity i k setBy).placements = s.placements := by
  unfold State.pushActivity
  split
  · rfl
  · split
    · rfl
    · exact (State.handOff_placements _ _ _).trans (s.updRecord_placements i _)

theorem State.removeActivity_placements (i : RecIdx) (k : Activity) (s : State) :
    (s.removeActivity i k).placements = s.placements := by
  unfold State.removeActivity
  split
  · rfl
  · split
    · simp only
      split
      · exact (State.handOff_placements _ _ _).trans (s.updRecord_placements i _)
      · exact s.updRecord_placements i _
    · rfl

theorem State.clearFlight_placements (i : RecIdx) (s : State) : (s.clearFlight i).placements = s.placements := by
  unfold State.clearFlight
  split
  · rfl
  · split
    · exact s.updRecord_placements i _
    · exact s.queueCommand_placements i _
    · rfl
    · rfl

theorem State.matchConfirmation_placements (i : RecIdx) (c : Option Nat) (s : State) :
    (s.matchConfirmation i c).placements = s.placements := by
  unfold State.matchConfirmation
  split
  · split
    · split
      · exact s.clearFlight_placements i
      · rfl
    · rfl
  · rfl

theorem State.requeueOnEcho_placements (i : RecIdx) (echo : ModeEcho) (s : State) :
    (s.requeueOnEcho i echo).placements = s.placements := by
  unfold State.requeueOnEcho
  split
  · split
    · exact s.queueCommand_placements i _
    · rfl
  · rfl

theorem State.sendHead_placements (s : State) : s.sendHead.1.placements = s.placements := by
  unfold State.sendHead
  split
  · rfl
  · split
    · rfl
    · simp only
      split
      · rfl
      · split
        · exact State.updRecord_placements _ _ _
        · rfl
        · rfl
        · rfl

/-! ## Fuel -/

theorem State.raiseFor_placements (i : RecIdx) (d : Detail) (s : State) :
    (s.raiseFor i d).placements = s.placements := placements_of_outsideNotices (s.raiseFor_frame i d)

theorem State.evaluateFuel_placements (i : RecIdx) (level : Nat) (s : State) :
    (s.evaluateFuel i level).placements = s.placements := by
  unfold State.evaluateFuel
  split
  · rfl
  · simp only
    split
    · exact (State.raiseFor_placements _ _ _).trans (s.updRecord_placements i _)
    · exact s.updRecord_placements i _

theorem State.fuelCase_placements (i : RecIdx) (f : Nat) (stamp : YardTime) (s : State) :
    (s.fuelCase i f stamp).placements = s.placements := by
  unfold State.fuelCase
  split
  · rfl
  · split
    · exact s.updRecord_placements i _
    · split
      · exact s.updRecord_placements i _
      · split
        · exact (State.updRecord_placements i _ _).trans
            ((State.raiseFor_placements _ _ _).trans (s.updRecord_placements i _))
        · split
          · exact s.updRecord_placements i _
          · rfl

theorem State.fuelUpdate_placements (i : RecIdx) (source : Source) (x : Readings) (s : State) :
    (s.fuelUpdate i source x).placements = s.placements := by
  unfold State.fuelUpdate
  split
  · exact (State.evaluateFuel_placements _ _ _).trans (s.fuelCase_placements i _ _)
  · rfl

theorem State.postFuel_placements (i : RecIdx) (level : Nat) (refuelled : Bool) (s : State) :
    (s.postFuel i level refuelled).placements = s.placements := by
  unfold State.postFuel
  refine (State.evaluateFuel_placements _ _ _).trans ?_
  split
  · exact (State.raiseFor_placements _ _ _).trans
      ((State.updRecord_placements i _ _).trans (s.updRecord_placements i _))
  · exact s.updRecord_placements i _

/-! ## The Defrost Scheduler -/

theorem State.joinQueue_placements (i : RecIdx) (excess : Nat) (manual : Bool) (n : Nat) (s : State) :
    (s.joinQueue i excess manual n).placements = s.placements := by
  refine placements_of_records (show s.joinRoom.records = s.records from ?_)
  unfold State.joinRoom
  split <;> rfl

theorem State.evaluateDemand_placements (i : RecIdx) (s : State) : (s.evaluateDemand i).placements = s.placements := by
  unfold State.evaluateDemand
  split
  · rfl
  · split
    · exact (State.raiseFor_placements _ _ _).trans (s.joinQueue_placements i _ _ _)
    · rfl

theorem State.recomputeExcess_placements (i : RecIdx) (s : State) : (s.recomputeExcess i).placements = s.placements := by
  unfold State.recomputeExcess
  split
  · split
    · rfl
    · split <;> rfl
  · rfl

theorem State.grant_placements (i : RecIdx) (f : Option FeederNo) (load : Nat) (s : State) :
    (s.grant i f load).placements = s.placements := by
  unfold State.grant
  refine (State.pushActivity_placements i .defrost none _).trans ?_
  have h := (s.leaveQueue i).updRecord_placements i
    (fun r => { r with run := some { grant := s.nextGrant, feeder := f, load := load, heating := 0, paused := 0 } })
  cases f <;> exact h

theorem Pass.consider_placements (p : Pass) (i : RecIdx) : (p.consider i).state.placements = p.state.placements := by
  unfold Pass.consider
  split
  · split
    · simp only
      split
      · exact State.grant_placements _ _ _ _
      · split
        · split
          · rfl
          · exact State.grant_placements _ _ _ _
        · split
          · split <;> rfl
          · rfl
    · rfl
  · rfl

theorem State.walkQueue_placements (s : State) : s.walkQueue.state.placements = s.placements := by
  have walk : ∀ (l : List RecIdx) (p : Pass), (l.foldl Pass.consider p).state.placements = p.state.placements := by
    intro l
    induction l with
    | nil => intro p; rfl
    | cons i l ih => intro p; exact (ih _).trans (p.consider_placements i)
  exact walk _ _

/-- A grant pass moves nothing. -/
theorem State.grantPass_placements (s : State) : s.grantPass.placements = s.placements :=
  (foldl_keeps State.placements State.raiseShort (fun s x => placements_of_outsideNotices (s.raiseShort_frame x)) _ _).trans
    s.walkQueue_placements

theorem State.reenqueue_placements (i : RecIdx) (s : State) : (s.reenqueue i).placements = s.placements := by
  unfold State.reenqueue
  split
  · rfl
  · split
    · exact s.joinQueue_placements i _ _ _
    · rfl

theorem State.queueAction_placements (i : RecIdx) (k : EndKind) (s : State) :
    (s.queueAction i k).placements = s.placements := by
  cases k
  case timedOut => exact s.evaluateDemand_placements i
  case revoked => exact s.reenqueue_placements i
  all_goals rfl

/-- The end of a defrost moves nothing. -/
theorem State.endDefrost_placements (i : RecIdx) (k : EndKind) (s : State) :
    (s.endDefrost i k).placements = s.placements := by
  unfold State.endDefrost
  split
  · rfl
  · refine (State.queueAction_placements _ _ _).trans ((State.raiseFor_placements _ _ _).trans
      ((State.updRecord_placements _ _ _).trans ((State.removeActivity_placements _ _ _).trans
        ((State.updRecord_placements _ _ _).trans ?_))))
    have h := s.updRecord_placements i (fun r => { r with run := none })
    split <;> exact h

theorem State.cutGrants_placements (f : FeederNo) : ∀ (n : Nat) (s : State),
    (State.cutGrants f n s).placements = s.placements
  | 0, _ => rfl
  | n + 1, s => by
    unfold State.cutGrants
    split
    · rfl
    · split
      · rfl
      · exact (State.cutGrants_placements f n _).trans (s.endDefrost_placements _ _)

theorem State.regrantOn_placements (i : RecIdx) (f : Option FeederNo) (s : State) :
    (s.regrantOn i f).placements = s.placements :=
  s.updRecord_placements i (fun r => { r with run := r.run.map fun d => { d with feeder := f } })

theorem State.sourceChange_placements (i : RecIdx) (s : State) : (s.sourceChange i).placements = s.placements := by
  unfold State.sourceChange
  split
  · rfl
  · split
    · rfl
    · split
      · exact State.regrantOn_placements _ _ _
      · simp only
        split
        · exact State.regrantOn_placements _ _ _
        · exact s.endDefrost_placements _ _
      · rfl
      · rfl

theorem State.terminationTest_placements (i : RecIdx) (x : Readings) (s : State) :
    (s.terminationTest i x).placements = s.placements := by
  unfold State.terminationTest
  split
  · rfl
  · split
    · exact s.endDefrost_placements _ _
    · rfl

/-! ## Reports and consequences of a tick -/

theorem State.doorStep_placements (i : RecIdx) (door : Door) (previous : Option Door) (s : State) :
    (s.doorStep i door previous).placements = s.placements := by
  unfold State.doorStep
  split
  · split
    · rfl
    · exact (State.pushActivity_placements _ _ _ _).trans (s.updRecord_placements i _)
  · split
    · rfl
    · exact (State.removeActivity_placements _ _ _).trans (s.updRecord_placements i _)

/-- An accepted report moves nothing. -/
theorem State.applyReport_placements (i : RecIdx) (r : TrailerRecord) (u : UnitReport) (echo : ModeEcho) (s : State) :
    (s.applyReport i r u echo).placements = s.placements := by
  unfold State.applyReport
  refine (State.updRecord_placements _ _ _).trans ?_
  refine (State.grantPass_placements _).trans ((State.evaluateDemand_placements _ _).trans
    ((State.recomputeExcess_placements _ _).trans ?_))
  refine (State.requeueOnEcho_placements _ _ _).trans ((State.matchConfirmation_placements _ _ _).trans ?_)
  refine (State.terminationTest_placements _ _ _).trans ((State.sourceChange_placements _ _).trans ?_)
  refine (State.doorStep_placements _ _ _ _).trans ((State.fuelUpdate_placements _ _ _ _).trans ?_)
  exact (State.updRecord_placements _ _ _).trans
    (s.updRecord_placements i _)

theorem State.timeoutCommand_placements (i : RecIdx) (s : State) : (s.timeoutCommand i).placements = s.placements := by
  unfold State.timeoutCommand
  split
  · rfl
  · exact (State.clearFlight_placements _ _).trans (State.raiseFor_placements _ _ _)

/-- A consequence of a tick moves nothing. -/
theorem State.take_placements (e : TickEvent) (s : State) : (s.take e).placements = s.placements := by
  cases e with
  | rollover => exact placements_of_outsideNotices s.testPlans_frame
  | silent i => exact (State.raiseFor_placements _ _ _).trans (s.updRecord_placements i _)
  | doorLong i =>
    show (s.openLong i).placements = _
    unfold State.openLong
    split
    · rfl
    · exact (State.raiseFor_placements _ _ _).trans (s.updRecord_placements i _)
  | abandon i => exact (State.grantPass_placements _).trans (s.endDefrost_placements i _)
  | timeOut i => exact (State.grantPass_placements _).trans (s.endDefrost_placements i _)
  | waitOver i => exact (State.grantPass_placements _).trans (s.updRecord_placements i _)
  | unconfirmed i => exact s.timeoutCommand_placements i
  | checkTimeout i k => exact placements_of_outsideNotices (s.timeoutItem_frame i k)
  | windowOver m => exact placements_of_outsideNotices (s.closeWindow_frame m)

theorem State.settle_placements (s : State) : s.settle.placements = s.placements := by
  have all : ∀ (l : List TickEvent) (s : State), (State.takeAll l s).placements = s.placements := by
    intro l
    induction l with
    | nil => intro s; rfl
    | cons e rest ih => intro s; exact (ih _).trans (State.take_placements e { s with due := rest })
  exact all _ s

end Sys2Proof.Machine
end

section
/-! # The sets of the Tag Cache -/

namespace Sys2Proof.Machine

open Sys2Proof

/-! ## What a set finds -/

theorem CacheSet.ways_of_wayOf {c : CacheSet} {t : Tag} {w : Fin 4} (h : c.wayOf t = some w) :
    ∃ e, c.ways[w] = some e ∧ e.tag = t := by
  have found := List.find?_some h
  rw [Option.any_eq_true] at found
  simpa using found

theorem CacheSet.wayOf_eq_none_iff {c : CacheSet} {t : Tag} :
    c.wayOf t = none ↔ ∀ (w : Fin 4) e, c.ways[w] = some e → e.tag ≠ t := by
  simp only [CacheSet.wayOf, allWays, List.find?_eq_none, List.mem_finRange, forall_const, Option.any_eq_true,
    decide_eq_true_eq, not_exists, not_and, ne_eq]

/-- An entry of a tag is found by it where no other way holds the tag. -/
theorem CacheSet.wayOf_eq_some {c : CacheSet} {t : Tag} {w : Fin 4} {e : CacheEntry} (hw : c.ways[w] = some e)
    (ht : e.tag = t) (only : ∀ (v : Fin 4) x, c.ways[v] = some x → x.tag = t → v = w) : c.wayOf t = some w := by
  cases h : c.wayOf t with
  | none => exact absurd ht (CacheSet.wayOf_eq_none_iff.mp h w e hw)
  | some v =>
    obtain ⟨x, hx, hxt⟩ := CacheSet.ways_of_wayOf h
    rw [only v x hx hxt]

/-! ## What a set keeps -/

/-- A set as R25 has it: one entry for a tag at most, and a recency order that lists the valid ways, each once. -/
def CacheSet.ok (c : CacheSet) : Prop :=
  (∀ (v w : Fin 4) a b, c.ways[v] = some a → c.ways[w] = some b → a.tag = b.tag → v = w) ∧
    c.recency.Nodup ∧ ∀ w : Fin 4, w ∈ c.recency ↔ c.ways[w].isSome

theorem CacheSet.cold_ways (w : Fin 4) : CacheSet.cold.ways[w] = none := by
  simp [CacheSet.cold]

theorem CacheSet.cold_ok : CacheSet.cold.ok := by
  refine ⟨fun v w a b hv => ?_, List.nodup_nil, fun w => ?_⟩
  · rw [CacheSet.cold_ways] at hv
    cases hv
  · rw [CacheSet.cold_ways]
    simp [CacheSet.cold]

theorem CacheSet.touch_ok {c : CacheSet} (h : c.ok) {w : Fin 4} (hw : c.ways[w].isSome) : (c.touch w).ok := by
  obtain ⟨single, nodup, valid⟩ := h
  refine ⟨single, List.nodup_cons.mpr ⟨by simp, nodup.filter _⟩, fun v => ?_⟩
  show v ∈ w :: c.recency.filter _ ↔ _
  by_cases hv : v = w
  · simpa [hv, CacheSet.touch] using hw
  · simp [hv, valid, CacheSet.touch]

theorem ways_set (ways : Vector (Option CacheEntry) 4) (w v : Fin 4) (x : Option CacheEntry) :
    (ways.set w x)[v] = if w = v then x else ways[v] := by
  simp only [Fin.getElem_fin, Vector.getElem_set, Fin.ext_iff]

/-- The ways after a fill: the way taken holds the entry, and every other way stands. -/
theorem CacheSet.fill_ways (c : CacheSet) (e : CacheEntry) (v : Fin 4) :
    (c.fill e).ways[v] = if c.wayToFill e.tag = v then some e else c.ways[v] := ways_set _ _ _ _

/-- A fill takes the way of its tag's own entry, where the set has one. -/
theorem CacheSet.wayToFill_own {c : CacheSet} {t : Tag} {v : Fin 4} {x : CacheEntry} (hv : c.ways[v] = some x)
    (ht : x.tag = t) : c.wayOf t = some (c.wayToFill t) := by
  unfold CacheSet.wayToFill
  cases h : c.wayOf t with
  | none => exact absurd ht (CacheSet.wayOf_eq_none_iff.mp h v x hv)
  | some w => rfl

theorem CacheSet.fill_ok {c : CacheSet} (h : c.ok) (e : CacheEntry) : (c.fill e).ok := by
  obtain ⟨single, nodup, valid⟩ := h
  have own : ∀ (v : Fin 4) x, c.ways[v] = some x → x.tag = e.tag → c.wayToFill e.tag = v := by
    intro v x hv hx
    obtain ⟨y, hy, hyt⟩ := CacheSet.ways_of_wayOf (CacheSet.wayToFill_own hv hx)
    exact single _ _ _ _ hy hv (hyt.trans hx.symm)
  refine ⟨fun v w a b hv hw hab => ?_, List.nodup_cons.mpr ⟨by simp, nodup.filter _⟩, fun v => ?_⟩
  · rw [CacheSet.fill_ways] at hv hw
    split at hv
    · next hvw =>
      cases hv
      split at hw
      · next hww => exact hvw.symm.trans hww
      · exact hvw.symm.trans (own w b hw hab.symm)
    · split at hw
      · next hww =>
        cases hw
        exact (own v a hv hab).symm.trans hww
      · exact single v w a b hv hw hab
  · rw [CacheSet.fill_ways]
    show v ∈ c.wayToFill e.tag :: c.recency.filter _ ↔ _
    by_cases hv : v = c.wayToFill e.tag
    · simp [hv]
    · simp [hv, Ne.symm hv, valid]

/-- The ways after an invalidation: none holds the tag, and every other entry stands. -/
theorem CacheSet.invalidate_ways {c : CacheSet} {t : Tag} {v : Fin 4} {x : CacheEntry}
    (h : (c.invalidate t).ways[v] = some x) : c.ways[v] = some x := by
  unfold CacheSet.invalidate at h
  split at h
  · exact h
  · rw [ways_set] at h
    split at h
    · cases h
    · exact h

theorem CacheSet.invalidate_forgets {c : CacheSet} {t : Tag}
    (single : ∀ (v w : Fin 4) a b, c.ways[v] = some a → c.ways[w] = some b → a.tag = b.tag → v = w) {v : Fin 4}
    {x : CacheEntry} (h : (c.invalidate t).ways[v] = some x) : x.tag ≠ t := by
  have before := CacheSet.invalidate_ways h
  unfold CacheSet.invalidate at h
  split at h
  · next hnone => exact CacheSet.wayOf_eq_none_iff.mp hnone v x h
  · next w hw =>
    obtain ⟨y, hy, hyt⟩ := CacheSet.ways_of_wayOf hw
    intro hx
    rw [ways_set, if_pos (single _ _ _ _ hy before (hyt.trans hx.symm))] at h
    cases h

theorem CacheSet.invalidate_ok {c : CacheSet} (h : c.ok) (t : Tag) : (c.invalidate t).ok := by
  obtain ⟨single, nodup, valid⟩ := h
  refine ⟨fun v w a b hv hw => single v w a b (CacheSet.invalidate_ways hv) (CacheSet.invalidate_ways hw), ?_, ?_⟩
  · unfold CacheSet.invalidate
    split
    · exact nodup
    · exact nodup.filter _
  · intro v
    unfold CacheSet.invalidate
    split
    · exact valid v
    · next w _ =>
      show v ∈ c.recency.filter _ ↔ ((c.ways.set w none)[v]).isSome
      rw [ways_set]
      by_cases hv : v = w
      · simp [hv]
      · simp [hv, Ne.symm hv, valid]

/-! ## The cache of a part -/

theorem State.cache_setCacheSet (s : State) (j k : Fin 4) (c : CacheSet) :
    (s.setCacheSet j c).cache[k] = if j = k then c else s.cache[k] := by
  simp only [State.setCacheSet, Fin.getElem_fin, Vector.getElem_set, Fin.ext_iff]

theorem State.cache_setCacheSet_self (s : State) (k : Fin 4) (c : CacheSet) : (s.setCacheSet k c).cache[k] = c := by
  rw [State.cache_setCacheSet, if_pos rfl]

theorem State.cache_setCacheSet_ne (s : State) {j k : Fin 4} (c : CacheSet) (h : j ≠ k) :
    (s.setCacheSet j c).cache[k] = s.cache[k] := by
  rw [State.cache_setCacheSet, if_neg h]

/-- A hit is a valid entry of the tag, in the way its set finds. -/
theorem State.cacheHit_eq_some {s : State} {t : Tag} {w : Fin 4} {e : CacheEntry} :
    s.cacheHit t = some (w, e) ↔ s.cache[tagSet t].wayOf t = some w ∧ s.cache[tagSet t].ways[w] = some e := by
  simp [State.cacheHit, Option.bind_eq_some_iff]

theorem State.cacheHit_eq_none {s : State} {t : Tag} : s.cacheHit t = none ↔ s.cache[tagSet t].wayOf t = none := by
  constructor
  · intro h
    cases hw : s.cache[tagSet t].wayOf t with
    | none => rfl
    | some w =>
      obtain ⟨e, he, -⟩ := CacheSet.ways_of_wayOf hw
      have hit := State.cacheHit_eq_some.mpr ⟨hw, he⟩
      rw [h] at hit
      cases hit
  · intro h
    rw [State.cacheHit, h]
    rfl

theorem State.tag_of_cacheHit {s : State} {t : Tag} {w : Fin 4} {e : CacheEntry} (h : s.cacheHit t = some (w, e)) :
    e.tag = t := by
  obtain ⟨hway, he⟩ := State.cacheHit_eq_some.mp h
  obtain ⟨x, hx, hxt⟩ := CacheSet.ways_of_wayOf hway
  rw [he] at hx
  cases hx
  exact hxt

/-! ## Lookups -/

theorem State.lookup_of_hit {t : Tag} {s : State} {way : Fin 4} {e : CacheEntry} (w : Waiter) (ht : t ≠ 0)
    (h : s.cacheHit t = some (way, e)) :
    s.lookup w t = (s.setCacheSet (tagSet t) (s.cache[tagSet t].touch way),
      .found { record := e.record, bay := e.bay, rights := e.rights, path := .cached }) := by
  rw [State.lookup, if_neg ht, h]

theorem State.lookup_of_miss {t : Tag} {s : State} (w : Waiter) (ht : t ≠ 0) (h : s.cacheHit t = none) :
    s.lookup w t = (s.startSearch { waiter := w, tag := t }, .waiting) := by
  rw [State.lookup, if_neg ht, h]

/-- A lookup of the zero tag is not found, a hit is answered from its entry on the CACHED path, and any other tag goes to the
engine. -/
theorem State.lookup_cases (w : Waiter) (t : Tag) (s : State) :
    (t = 0 ∧ s.lookup w t = (s, .notFound)) ∨
    (t ≠ 0 ∧ ∃ way e, s.cacheHit t = some (way, e) ∧
      s.lookup w t = (s.setCacheSet (tagSet t) (s.cache[tagSet t].touch way),
        .found { record := e.record, bay := e.bay, rights := e.rights, path := .cached })) ∨
    (t ≠ 0 ∧ s.cacheHit t = none ∧ s.lookup w t = (s.startSearch { waiter := w, tag := t }, .waiting)) := by
  by_cases ht : t = 0
  · exact .inl ⟨ht, if_pos ht⟩
  · cases hit : s.cacheHit t with
    | none => exact .inr (.inr ⟨ht, rfl, State.lookup_of_miss w ht hit⟩)
    | some x =>
      obtain ⟨way, e⟩ := x
      exact .inr (.inl ⟨ht, way, e, rfl, State.lookup_of_hit w ht hit⟩)

end Sys2Proof.Machine
end

section
/-! # The map and the Tag Cache in agreement -/

namespace Sys2Proof.Machine

open Sys2Proof

/-- The occupant of each bay. -/
def State.occupants (s : State) : BayAddr → Option RecIdx := fun b => (s.bayAt b).occupant

theorem occupants_of_bays {s t : State} (h : s.bays = t.bays) : s.occupants = t.occupants := by
  funext b
  simp only [State.occupants, State.bayAt, h]

/-- `State.mapOk`, of placements and occupants. -/
def mapAgrees (placed : RecIdx → Option (Tag × BayAddr)) (occupant : BayAddr → Option RecIdx) : Prop :=
  (∀ i t b, placed i = some (t, b) → occupant b = some i) ∧ (∀ b i, occupant b = some i → ∃ t, placed i = some (t, b)) ∧
    ∀ i j t b c, placed i = some (t, b) → placed j = some (t, c) → i = j

/-- `State.cacheOk`, of placements and the cache. -/
def cacheAgrees (placed : RecIdx → Option (Tag × BayAddr)) (cache : Vector CacheSet 4) : Prop :=
  ∀ k : Fin 4, cache[k].ok ∧
    ∀ (w : Fin 4) e, cache[k].ways[w] = some e → tagSet e.tag = k ∧ placed e.record = some (e.tag, e.bay)

theorem State.mapOk_iff (s : State) : s.mapOk ↔ mapAgrees s.placements s.occupants := by
  constructor
  · rintro ⟨stands, named, single⟩
    refine ⟨fun i t b h => ?_, fun b i h => ?_, fun i j t b c hi hj => ?_⟩
    · obtain ⟨r, hr, -, rfl⟩ := State.placements_eq_some.mp h
      exact stands i r hr
    · obtain ⟨r, hr, rfl⟩ := named b i h
      exact ⟨r.tag, State.placements_eq_some.mpr ⟨r, hr, rfl, rfl⟩⟩
    · obtain ⟨r, hr, rfl, -⟩ := State.placements_eq_some.mp hi
      obtain ⟨x, hx, hxt, -⟩ := State.placements_eq_some.mp hj
      exact single i j r x hr hx hxt.symm
  · rintro ⟨stands, named, single⟩
    refine ⟨fun i r h => ?_, fun b i h => ?_, fun i j r x hi hj hrx => ?_⟩
    · exact stands i r.tag r.bay (State.placements_eq_some.mpr ⟨r, h, rfl, rfl⟩)
    · obtain ⟨t, ht⟩ := named b i h
      obtain ⟨r, hr, -, hb⟩ := State.placements_eq_some.mp ht
      exact ⟨r, hr, hb⟩
    · exact single i j r.tag r.bay x.bay (State.placements_eq_some.mpr ⟨r, hi, rfl, rfl⟩)
        (State.placements_eq_some.mpr ⟨x, hj, hrx.symm, rfl⟩)

theorem State.cacheOk_iff (s : State) : s.cacheOk ↔ cacheAgrees s.placements s.cache := by
  constructor
  · rintro ⟨names, single, order⟩ k
    refine ⟨⟨single k, order k⟩, fun w e h => ?_⟩
    obtain ⟨hset, r, hr, ht, hb⟩ := names k w e h
    exact ⟨hset, State.placements_eq_some.mpr ⟨r, hr, ht, hb⟩⟩
  · intro h
    refine ⟨fun k w e he => ?_, fun k => (h k).1.1, fun k => (h k).1.2⟩
    obtain ⟨hset, hplaced⟩ := (h k).2 w e he
    exact ⟨hset, State.placements_eq_some.mp hplaced⟩

/-! ## Placing and freeing -/

/-- Placing a tag that no record holds, in a free record and an empty bay. -/
theorem mapAgrees_place {placed : RecIdx → Option (Tag × BayAddr)} {occupant : BayAddr → Option RecIdx}
    (h : mapAgrees placed occupant) {i : RecIdx} {t : Tag} {b : BayAddr} (free : placed i = none) (empty : occupant b = none)
    (fresh : ∀ j c, placed j ≠ some (t, c)) :
    mapAgrees (Function.update placed i (some (t, b))) (Function.update occupant b (some i)) := by
  obtain ⟨stands, named, single⟩ := h
  refine ⟨fun j u c hj => ?_, fun c j hc => ?_, fun j k u c d hj hk => ?_⟩
  · by_cases hji : j = i
    · subst hji
      rw [Function.update_self, Option.some.injEq, Prod.mk.injEq] at hj
      obtain ⟨-, rfl⟩ := hj
      rw [Function.update_self]
    · rw [Function.update_of_ne hji] at hj
      have hc := stands j u c hj
      have hcb : c ≠ b := by
        rintro rfl
        rw [empty] at hc
        cases hc
      rw [Function.update_of_ne hcb, hc]
  · by_cases hcb : c = b
    · subst hcb
      rw [Function.update_self, Option.some.injEq] at hc
      subst hc
      exact ⟨t, Function.update_self _ _ _⟩
    · rw [Function.update_of_ne hcb] at hc
      obtain ⟨u, hu⟩ := named c j hc
      have hji : j ≠ i := by
        rintro rfl
        rw [free] at hu
        cases hu
      exact ⟨u, by rw [Function.update_of_ne hji, hu]⟩
  · by_cases hji : j = i <;> by_cases hki : k = i
    · exact hji.trans hki.symm
    · subst hji
      rw [Function.update_self, Option.some.injEq, Prod.mk.injEq] at hj
      rw [Function.update_of_ne hki, ← hj.1] at hk
      exact absurd hk (fresh k d)
    · subst hki
      rw [Function.update_self, Option.some.injEq, Prod.mk.injEq] at hk
      rw [Function.update_of_ne hji, ← hk.1] at hj
      exact absurd hj (fresh j c)
    · rw [Function.update_of_ne hji] at hj
      rw [Function.update_of_ne hki] at hk
      exact single j k u c d hj hk

/-- Freeing a placed record, and its bay. -/
theorem mapAgrees_free {placed : RecIdx → Option (Tag × BayAddr)} {occupant : BayAddr → Option RecIdx}
    (h : mapAgrees placed occupant) {i : RecIdx} {t : Tag} {b : BayAddr} (hi : placed i = some (t, b)) :
    mapAgrees (Function.update placed i none) (Function.update occupant b none) := by
  obtain ⟨stands, named, single⟩ := h
  have kept : ∀ j x, Function.update placed i none j = some x → j ≠ i ∧ placed j = some x := by
    intro j x hj
    by_cases hji : j = i
    · subst hji
      rw [Function.update_self] at hj
      cases hj
    · rw [Function.update_of_ne hji] at hj
      exact ⟨hji, hj⟩
  refine ⟨fun j u c hj => ?_, fun c j hc => ?_, fun j k u c d hj hk => ?_⟩
  · obtain ⟨hji, hj⟩ := kept j _ hj
    have hcb : c ≠ b := by
      rintro rfl
      have both := (stands j u c hj).symm.trans (stands i t c hi)
      exact hji (Option.some.inj both)
    rw [Function.update_of_ne hcb, stands j u c hj]
  · by_cases hcb : c = b
    · subst hcb
      rw [Function.update_self] at hc
      cases hc
    · rw [Function.update_of_ne hcb] at hc
      obtain ⟨u, hu⟩ := named c j hc
      have hji : j ≠ i := by
        rintro rfl
        rw [hi, Option.some.injEq, Prod.mk.injEq] at hu
        exact hcb hu.2.symm
      exact ⟨u, by rw [Function.update_of_ne hji, hu]⟩
  · exact single j k u c d (kept j _ hj).2 (kept k _ hk).2

/-! ## The cache under placing, freeing, fills and hits -/

/-- Placing a further record leaves the cache in agreement. -/
theorem cacheAgrees_mono {placed placed' : RecIdx → Option (Tag × BayAddr)} {cache : Vector CacheSet 4}
    (h : cacheAgrees placed cache) (more : ∀ i x, placed i = some x → placed' i = some x) : cacheAgrees placed' cache := by
  intro k
  obtain ⟨hok, names⟩ := h k
  exact ⟨hok, fun w e he => ⟨(names w e he).1, more _ _ (names w e he).2⟩⟩

/-- A set replaced by one in agreement leaves the cache in agreement. -/
theorem cacheAgrees_set {placed : RecIdx → Option (Tag × BayAddr)} {cache : Vector CacheSet 4} {j : Fin 4} {c : CacheSet}
    (h : cacheAgrees placed cache) (hc : c.ok)
    (names : ∀ (w : Fin 4) e, c.ways[w] = some e → tagSet e.tag = j ∧ placed e.record = some (e.tag, e.bay)) :
    cacheAgrees placed (cache.set j c) := by
  intro k
  have hk : (cache.set j c)[k] = if j = k then c else cache[k] := by
    simp only [Fin.getElem_fin, Vector.getElem_set, Fin.ext_iff]
  rw [hk]
  split
  · next hjk =>
    subst hjk
    exact ⟨hc, names⟩
  · exact h k

theorem cacheAgrees_cold (placed : RecIdx → Option (Tag × BayAddr)) :
    cacheAgrees placed (Vector.replicate 4 CacheSet.cold) := by
  intro k
  have hk : (Vector.replicate 4 CacheSet.cold)[k] = CacheSet.cold := by simp
  rw [hk]
  refine ⟨CacheSet.cold_ok, fun w e he => ?_⟩
  rw [CacheSet.cold_ways] at he
  cases he

/-- An invalidation leaves the cache in agreement, and with the tag's record freed too. -/
theorem cacheAgrees_invalidate {placed placed' : RecIdx → Option (Tag × BayAddr)} {cache : Vector CacheSet 4} {t : Tag}
    (h : cacheAgrees placed cache) (others : ∀ i u b, u ≠ t → placed i = some (u, b) → placed' i = some (u, b)) :
    cacheAgrees placed' (cache.set (tagSet t) (cache[tagSet t].invalidate t)) := by
  intro k
  obtain ⟨hok, names⟩ := h k
  have hk : (cache.set (tagSet t) (cache[tagSet t].invalidate t))[k] =
      if tagSet t = k then cache[tagSet t].invalidate t else cache[k] := by
    simp only [Fin.getElem_fin, Vector.getElem_set, Fin.ext_iff]
  rw [hk]
  split
  · next htk =>
    subst htk
    refine ⟨CacheSet.invalidate_ok hok t, fun w e he => ?_⟩
    obtain ⟨hset, hplaced⟩ := names w e (CacheSet.invalidate_ways he)
    exact ⟨hset, others _ _ _ (CacheSet.invalidate_forgets hok.1 he) hplaced⟩
  · next htk =>
    refine ⟨hok, fun w e he => ?_⟩
    obtain ⟨hset, hplaced⟩ := names w e he
    refine ⟨hset, others _ _ _ ?_ hplaced⟩
    rintro rfl
    exact htk hset

/-- A fill with a placed record's entry leaves the cache in agreement. -/
theorem cacheAgrees_fill {placed : RecIdx → Option (Tag × BayAddr)} {cache : Vector CacheSet 4} {e : CacheEntry}
    (h : cacheAgrees placed cache) (he : placed e.record = some (e.tag, e.bay)) :
    cacheAgrees placed (cache.set (tagSet e.tag) (cache[tagSet e.tag].fill e)) := by
  obtain ⟨hok, names⟩ := h (tagSet e.tag)
  refine cacheAgrees_set h (CacheSet.fill_ok hok e) fun w x hx => ?_
  rw [CacheSet.fill_ways] at hx
  split at hx
  · cases hx
    exact ⟨rfl, he⟩
  · exact names w x hx

/-! ## The yard of a part -/

/-- The map and the Tag Cache as the invariant has them. -/
def State.yardOk (s : State) : Prop := s.mapOk ∧ s.cacheOk

theorem State.yardOk_iff (s : State) :
    s.yardOk ↔ mapAgrees s.placements s.occupants ∧ cacheAgrees s.placements s.cache :=
  and_congr s.mapOk_iff s.cacheOk_iff

/-- What the map, the cache and the lookups consist of. -/
structure YardView where
  placements : RecIdx → Option (Tag × BayAddr)
  occupants : BayAddr → Option RecIdx
  cache : Vector CacheSet 4
  engine : Option Search
  waitList : List Search
  intake : IntakeState
  ports : Ports

/-- The map, the cache and the lookups of a part. -/
def State.yardView (s : State) : YardView :=
  ⟨s.placements, s.occupants, s.cache, s.engine, s.waitList, s.intake, s.ports⟩

/-- The lookups of a part, and what they answer to. -/
def State.lookups (s : State) : Option Search × List Search × IntakeState × Ports :=
  (s.engine, s.waitList, s.intake, s.ports)

theorem yardView_of_frame {s t : State} (frame : t.outsideScheduler = s.outsideScheduler)
    (placed : t.placements = s.placements) : t.yardView = s.yardView := by
  have view : t.outsideScheduler.yardView = s.outsideScheduler.yardView := congrArg State.yardView frame
  obtain ⟨-, hocc, hcache, heng, hwait, hint, hports⟩ := YardView.mk.inj view
  rw [State.yardView, State.yardView, YardView.mk.injEq]
  exact ⟨placed, hocc, hcache, heng, hwait, hint, hports⟩

theorem yardView_of_records_frame {s t : State} (frame : t.outsideRecords = s.outsideRecords)
    (placed : t.placements = s.placements) : t.yardView = s.yardView :=
  yardView_of_frame (outsideScheduler_of_outsideRecords frame) placed

theorem yardView_of_notices_frame {s t : State} (frame : t.outsideNotices = s.outsideNotices) : t.yardView = s.yardView :=
  yardView_of_frame (outsideScheduler_of_outsideNotices frame) (placements_of_outsideNotices frame)

theorem lookups_of_frame {s t : State} (frame : t.outsideScheduler = s.outsideScheduler) : t.lookups = s.lookups := by
  have view : t.outsideScheduler.lookups = s.outsideScheduler.lookups := congrArg State.lookups frame
  exact view

theorem lookups_of_view {s t : State} (h : t.yardView = s.yardView) : t.lookups = s.lookups := by
  obtain ⟨-, -, -, heng, hwait, hint, hports⟩ := YardView.mk.inj h
  simp only [State.lookups, heng, hwait, hint, hports]

theorem yardOk_of_view {s t : State} (h : t.yardView = s.yardView) (ok : s.yardOk) : t.yardOk := by
  obtain ⟨hplaced, hocc, hcache, -⟩ := YardView.mk.inj h
  rw [State.yardOk_iff] at ok ⊢
  rwa [hplaced, hocc, hcache]

end Sys2Proof.Machine
end

section
/-! # What a request does to the yard and to the lookups -/

namespace Sys2Proof.Machine

open Sys2Proof

/-! ## Writes of the map -/

theorem State.placements_setRecord_none (s : State) (i : RecIdx) :
    (s.setRecord i none).placements = Function.update s.placements i none := by
  funext j
  by_cases h : j = i
  · subst h
    simp [State.placements]
  · rw [Function.update_of_ne h, State.placements, State.record?_setRecord_ne _ _ (Ne.symm h)]
    rfl

theorem State.placements_setRecord_some (s : State) (i : RecIdx) (r : TrailerRecord) :
    (s.setRecord i (some r)).placements = Function.update s.placements i (some (r.tag, r.bay)) := by
  funext j
  by_cases h : j = i
  · subst h
    simp [State.placements]
  · rw [Function.update_of_ne h, State.placements, State.record?_setRecord_ne _ _ (Ne.symm h)]
    rfl

theorem State.occupants_setBay (s : State) (b : BayAddr) (e : BayEntry) :
    (s.setBay b e).occupants = Function.update s.occupants b e.occupant := by
  funext c
  by_cases h : c = b
  · subst h
    simp [State.occupants]
  · rw [Function.update_of_ne h, State.occupants, State.bayAt_setBay, if_neg (Ne.symm h)]
    rfl

/-- A bay rewritten with the occupant it has keeps the map. -/
theorem State.setBay_yardView (s : State) (b : BayAddr) (e : BayEntry) (h : e.occupant = (s.bayAt b).occupant) :
    (s.setBay b e).yardView = s.yardView := by
  have occ : (s.setBay b e).occupants = s.occupants := by
    rw [State.occupants_setBay, h]
    exact Function.update_eq_self b s.occupants
  rw [State.yardView, occ]
  rfl

theorem State.updRecord_yardView (i : RecIdx) (f : TrailerRecord → TrailerRecord) (s : State)
    (hf : ∀ r, (f r).tag = r.tag ∧ (f r).bay = r.bay := by exact fun _ => ⟨rfl, rfl⟩) :
    (s.updRecord i f).yardView = s.yardView :=
  yardView_of_records_frame (s.updRecord_frame i f) (s.updRecord_placements i f hf)

theorem outsideRecords_setRecords (s : State) (v : Vector (Option TrailerRecord) 48) :
    { s with records := v }.outsideRecords = s.outsideRecords := rfl

/-- Records rewritten each with its tag and bay stay where they are. -/
theorem placements_of_ofFn {s t : State} {f : RecIdx → TrailerRecord → TrailerRecord}
    (h : t.records = Vector.ofFn fun i => (s.record? i).map (f i))
    (hf : ∀ i r, (f i r).tag = r.tag ∧ (f i r).bay = r.bay) : t.placements = s.placements := by
  funext i
  simp only [State.placements, State.record?, h, Fin.getElem_fin, Vector.getElem_ofFn, Option.map_map]
  congr 1
  funext r
  exact Prod.ext (hf i r).1 (hf i r).2

theorem mapRecords_yardView (f : RecIdx → TrailerRecord → TrailerRecord) (s : State)
    (hf : ∀ i r, (f i r).tag = r.tag ∧ (f i r).bay = r.bay) :
    { s with records := Vector.ofFn fun i => (s.record? i).map (f i) }.yardView = s.yardView :=
  yardView_of_records_frame (outsideRecords_setRecords s _) (placements_of_ofFn rfl hf)

/-! ## Requests that name no trailer -/

theorem State.doSetBudget_yardView (f : FeederNo) (value : Nat) (s : State) :
    (s.doSetBudget f value).1.yardView = s.yardView := by
  have pass : ∀ t : State, t.grantPass.yardView = t.yardView := fun t =>
    yardView_of_frame t.grantPass_frame t.grantPass_placements
  unfold State.doSetBudget
  simp only
  split
  · exact pass _
  · split
    · exact (pass _).trans (yardView_of_frame (State.cutGrants_frame f _ _) (State.cutGrants_placements f _ _))
    · rfl

/-- A request that names no placed trailer moves nothing, and leaves the cache as it is but for FLUSH_TAGS. -/
theorem State.actPlain_yardView (m : Master) (req : Request) (s : State) (h : req ≠ .flushTags) :
    (s.actPlain m req).1.yardView = s.yardView := by
  cases req with
  | zoneSet z e =>
    show (s.doZoneSet z e).1.yardView = _
    unfold State.doZoneSet
    simp only
    split
    · rfl
    · split <;> rfl
  | baySet b rights locked => exact s.setBay_yardView b _ rfl
  | sweepSeen => exact mapRecords_yardView (fun _ r => { r with seen := false }) s fun _ _ => ⟨rfl, rfl⟩
  | flushTags => exact absurd rfl h
  | clockTrim =>
    show s.doClockTrim.1.yardView = _
    unfold State.doClockTrim
    split
    · split
      · exact (yardView_of_notices_frame (State.testPlans_frame { s with clock := s.clock.nextMinute })).trans rfl
      · rfl
    · rfl
  | configSet v =>
    cases v with
    | attention m mode =>
      show (s.setAttention m mode).yardView = _
      unfold State.setAttention
      split <;> rfl
    | _ => rfl
  | fetchNotice =>
    show (s.doFetch m).1.yardView = _
    unfold State.doFetch
    simp only
    split <;> rfl
  | releaseNotices => exact yardView_of_notices_frame (s.closeWindow_frame m)
  | setBudget f value => exact s.doSetBudget_yardView f value
  | _ => rfl

theorem State.actPlain_lookups (m : Master) (req : Request) (s : State) : (s.actPlain m req).1.lookups = s.lookups := by
  by_cases h : req = .flushTags
  · subst h
    rfl
  · exact lookups_of_view (s.actPlain_yardView m req h)

theorem State.actPlain_yardOk {s : State} (ok : s.yardOk) (m : Master) (req : Request) : (s.actPlain m req).1.yardOk := by
  by_cases h : req = .flushTags
  · subst h
    rw [State.yardOk_iff] at ok ⊢
    exact ⟨ok.1, cacheAgrees_cold _⟩
  · exact yardOk_of_view (s.actPlain_yardView m req h) ok

/-! ## PLACE, MOVE and RELEASE -/

theorem State.doPlace_lookups (t : Tag) (b : BayAddr) (source : Option Source) (load : Option Nat) (s : State) :
    (s.doPlace t b source load).1.lookups = s.lookups := by
  unfold State.doPlace
  split
  · rfl
  · split <;> rfl

theorem State.firstFree_eq_some {s : State} {i : RecIdx} (h : s.firstFree = some i) : s.record? i = none := by
  simpa using List.find?_some h

/-- A tag that the search of the pool does not find is held by no placed record. -/
theorem State.findTag_eq_none_iff {s : State} {t : Tag} : s.findTag t = none ↔ ∀ i b, s.placements i ≠ some (t, b) := by
  simp only [State.findTag, List.find?_eq_none, allRecords, List.mem_finRange, forall_const, Option.any_eq_true,
    decide_eq_true_eq, ne_eq, State.placements_eq_some, not_exists, not_and]
  exact forall_congr' fun i => ⟨fun h b r hr ht _ => h r hr ht, fun h r hr ht => h r.bay r hr ht rfl⟩

theorem State.findTag_eq_some {s : State} {t : Tag} {i : RecIdx} (h : s.findTag t = some i) :
    ∃ r, s.record? i = some r ∧ r.tag = t := by
  have found := List.find?_some h
  rw [Option.any_eq_true] at found
  simpa using found

/-- PLACE of a tag that is not placed keeps the map. -/
theorem State.doPlace_yardOk {s : State} (ok : s.yardOk) {t : Tag} (fresh : s.findTag t = none) (b : BayAddr)
    (source : Option Source) (load : Option Nat) : (s.doPlace t b source load).1.yardOk := by
  unfold State.doPlace
  split
  · exact ok
  · next hempty =>
    split
    · exact ok
    · next i hfree =>
      rw [State.yardOk_iff] at ok ⊢
      obtain ⟨hmap, hcache⟩ := ok
      have free : s.placements i = none := by simp [State.placements, State.firstFree_eq_some hfree]
      have empty : s.occupants b = none := by simpa [State.occupants] using hempty
      have placed : (s.setRecord i (some (TrailerRecord.placed t b source load s.zones[b.zone].frostThreshold))).placements =
          Function.update s.placements i (some (t, b)) := s.placements_setRecord_some i _
      constructor
      · have occ := (s.setRecord i (some (TrailerRecord.placed t b source load s.zones[b.zone].frostThreshold))).occupants_setBay
          b { s.bayAt b with occupant := some i }
        have keep := mapAgrees_place hmap free empty (State.findTag_eq_none_iff.mp fresh)
        rw [← placed] at keep
        exact occ.symm ▸ keep
      · refine cacheAgrees_invalidate hcache fun j u c _ hj => ?_
        have hji : j ≠ i := by
          rintro rfl
          rw [free] at hj
          cases hj
        show (s.setRecord i _).placements j = _
        rw [placed, Function.update_of_ne hji, hj]

/-- A change of a placed record writes it, with its changed flag where R21 has it set. -/
theorem State.updRecord_of_some {s : State} {i : RecIdx} {r : TrailerRecord} (h : s.record? i = some r)
    (f : TrailerRecord → TrailerRecord) : s.updRecord i f = s.setRecord i (some (r.marking (f r))) := by
  rw [State.updRecord, h]

/-- The part with a trailer moved to a bay, its old bay emptied and its tag out of the cache (R16). -/
def State.moved (s : State) (i : RecIdx) (r : TrailerRecord) (t : Tag) (b : BayAddr) : State :=
  (((s.setBay r.bay { s.bayAt r.bay with occupant := none }).setBay b
    { (s.setBay r.bay { s.bayAt r.bay with occupant := none }).bayAt b with occupant := some i }).setRecord i
      (some (r.marking { r with bay := b }))).invalidateTag t

/-- MOVE leaves the part as it is, or moves a placed record to an empty bay. -/
theorem State.doMove_cases (i : RecIdx) (t : Tag) (b : BayAddr) (s : State) :
    (s.doMove i t b).1 = s ∨
      ∃ r, s.record? i = some r ∧ (s.bayAt b).occupant = none ∧ (s.doMove i t b).1 = s.moved i r t b := by
  cases hr : s.record? i with
  | none => exact .inl (by rw [State.doMove, hr])
  | some r =>
    rw [State.doMove, hr]
    simp only
    split
    · exact .inl rfl
    · split
      · exact .inl rfl
      · next hempty =>
        split
        · exact .inl rfl
        · refine .inr ⟨r, rfl, by simpa using hempty, ?_⟩
          rw [State.updRecord_of_some (r := r) (by simpa using hr)]
          rfl

theorem State.doMove_lookups (i : RecIdx) (t : Tag) (b : BayAddr) (s : State) :
    (s.doMove i t b).1.lookups = s.lookups := by
  rcases s.doMove_cases i t b with h | ⟨r, -, -, h⟩ <;> rw [h]
  rfl

/-- MOVE of a trailer by its own tag keeps the map. -/
theorem State.doMove_yardOk {s : State} (ok : s.yardOk) {i : RecIdx} {t : Tag}
    (holds : ∀ r, s.record? i = some r → r.tag = t) (b : BayAddr) : (s.doMove i t b).1.yardOk := by
  rcases s.doMove_cases i t b with h | ⟨r, hr, hempty, h⟩ <;> rw [h]
  · exact ok
  · obtain rfl := holds r hr
    rw [State.yardOk_iff] at ok ⊢
    obtain ⟨hmap, hcache⟩ := ok
    have here : s.placements i = some (r.tag, r.bay) := State.placements_eq_some.mpr ⟨r, hr, rfl, rfl⟩
    have placed : (s.moved i r r.tag b).placements =
        Function.update (Function.update s.placements i none) i (some (r.tag, b)) := by
      rw [Function.update_idem]
      refine (State.placements_setRecord_some _ i _).trans ?_
      rw [TrailerRecord.marking_tag, TrailerRecord.marking_bay]
      rfl
    have occ : (s.moved i r r.tag b).occupants =
        Function.update (Function.update s.occupants r.bay none) b (some i) := by
      refine (State.occupants_setBay _ b _).trans ?_
      rw [State.occupants_setBay]
    have other : ∀ j c, j ≠ i → s.placements j ≠ some (r.tag, c) := fun j c hji hj => hji (hmap.2.2 _ _ _ _ _ hj here)
    constructor
    · rw [placed, occ]
      refine mapAgrees_place (mapAgrees_free hmap here) (Function.update_self _ _ _) ?_ fun j c hj => ?_
      · by_cases hb : b = r.bay
        · subst hb
          exact Function.update_self _ _ _
        · rw [Function.update_of_ne hb]
          exact hempty
      · by_cases hji : j = i
        · subst hji
          rw [Function.update_self] at hj
          cases hj
        · rw [Function.update_of_ne hji] at hj
          exact other j c hji hj
    · refine cacheAgrees_invalidate hcache fun j u c hu hj => ?_
      have hji : j ≠ i := by
        rintro rfl
        rw [here, Option.some.injEq, Prod.mk.injEq] at hj
        exact hu hj.1.symm
      rw [placed, Function.update_of_ne hji, Function.update_of_ne hji, hj]

theorem State.releaseDefrost_yardView (i : RecIdx) (s : State) : (s.releaseDefrost i).yardView = s.yardView := by
  unfold State.releaseDefrost
  split
  · exact yardView_of_frame ((State.grantPass_frame _).trans (s.endDefrost_frame i _))
      ((State.grantPass_placements _).trans (s.endDefrost_placements i _))
  · rfl

/-- The Unit Command Queue's and the Check List's parts of a release move nothing. -/
theorem State.forget_yardView (i : RecIdx) (t : Tag) (s : State) :
    ((s.forgetCommands i).forgetChecks t).yardView = s.yardView :=
  (s.updRecord_yardView i fun r => { r with slot := .empty })

/-- The part with a record freed, its bay emptied and its tag out of the cache (R17). -/
def State.freed (s : State) (i : RecIdx) (b : BayAddr) (t : Tag) : State :=
  ((s.invalidateTag t).setBay b { s.bayAt b with occupant := none }).setRecord i none

theorem State.freed_lookups (s : State) (i : RecIdx) (b : BayAddr) (t : Tag) : (s.freed i b t).lookups = s.lookups := rfl

/-- Freeing a placed record with its bay and its tag keeps the map. -/
theorem State.freed_yardOk {s : State} (ok : s.yardOk) {i : RecIdx} {t : Tag} {b : BayAddr}
    (here : s.placements i = some (t, b)) : (s.freed i b t).yardOk := by
  rw [State.yardOk_iff] at ok ⊢
  obtain ⟨hmap, hcache⟩ := ok
  have placed : (s.freed i b t).placements = Function.update s.placements i none := State.placements_setRecord_none _ i
  have occ : (s.freed i b t).occupants = Function.update s.occupants b none := State.occupants_setBay _ b _
  rw [placed, occ]
  refine ⟨mapAgrees_free hmap here, cacheAgrees_invalidate hcache fun j u c hu hj => ?_⟩
  have hji : j ≠ i := by
    rintro rfl
    rw [here, Option.some.injEq, Prod.mk.injEq] at hj
    exact hu hj.1.symm
  rw [Function.update_of_ne hji, hj]

/-- RELEASE of a placed record: the parts of the scheduler, the Unit Command Queue and the Check List, and then the map's. -/
theorem State.doRelease_of_some {s : State} {i : RecIdx} {r : TrailerRecord} (h : s.record? i = some r) (t : Tag) :
    s.doRelease i t = ((((s.releaseDefrost i).forgetCommands i).forgetChecks t).freed i r.bay t, .done .nothing) := by
  rw [State.doRelease, h]
  rfl

theorem State.doRelease_of_none {s : State} {i : RecIdx} (h : s.record? i = none) (t : Tag) :
    s.doRelease i t = (s, .done .nothing) := by
  rw [State.doRelease, h]

theorem State.beforeFreed_yardView (i : RecIdx) (t : Tag) (s : State) :
    (((s.releaseDefrost i).forgetCommands i).forgetChecks t).yardView = s.yardView :=
  (State.forget_yardView i t _).trans (s.releaseDefrost_yardView i)

theorem State.doRelease_lookups (i : RecIdx) (t : Tag) (s : State) : (s.doRelease i t).1.lookups = s.lookups := by
  cases hr : s.record? i with
  | none => rw [State.doRelease_of_none hr]
  | some r =>
    rw [State.doRelease_of_some hr, State.freed_lookups]
    exact lookups_of_view (s.beforeFreed_yardView i t)

/-- RELEASE of a trailer by its own tag keeps the map. -/
theorem State.doRelease_yardOk {s : State} (ok : s.yardOk) {i : RecIdx} {t : Tag}
    (holds : ∀ r, s.record? i = some r → r.tag = t) : (s.doRelease i t).1.yardOk := by
  cases hr : s.record? i with
  | none => rwa [State.doRelease_of_none hr]
  | some r =>
    obtain rfl := holds r hr
    rw [State.doRelease_of_some hr]
    have view := s.beforeFreed_yardView i r.tag
    refine State.freed_yardOk (yardOk_of_view view ok) ?_
    rw [(YardView.mk.inj view).1]
    exact State.placements_eq_some.mpr ⟨r, hr, rfl, rfl⟩

end Sys2Proof.Machine
end

section
/-! # Requests taken, held and resumed: the yard stays in agreement, and a lookup has its caller -/

namespace Sys2Proof.Machine

open Sys2Proof

/-! ## Requests on a resolved trailer -/

theorem State.doCheckAdd_frame (i : RecIdx) (k : CheckKind) (p : Priority) (s : State) :
    (s.doCheckAdd i k p).1.outsideNotices = s.outsideNotices := by
  unfold State.doCheckAdd
  split
  · rfl
  · next r _ =>
    have h := s.askItem_frame
      { tag := r.tag, record := i, kind := k, priority := p, origin := .manual, createdAt := s.now }
    split <;> next heq => rw [heq] at h; exact h

theorem State.grantPass_yardView (s : State) : s.grantPass.yardView = s.yardView :=
  yardView_of_frame s.grantPass_frame s.grantPass_placements

theorem State.endDefrost_yardView (i : RecIdx) (k : EndKind) (s : State) : (s.endDefrost i k).yardView = s.yardView :=
  yardView_of_frame (s.endDefrost_frame i k) (s.endDefrost_placements i k)

theorem State.raise_yardView (e : Event) (s : State) : (s.raise e).yardView = s.yardView :=
  yardView_of_notices_frame (s.raise_frame e)

theorem State.closeItem_yardView (m : Master) (i : RecIdx) (t : Tag) (result : CloseResult) (s : State) :
    (s.closeItem m i t result).yardView = s.yardView := by
  cases result with
  | secure => rfl
  | ajar => rfl
  | damaged => exact State.raise_yardView _ _
  | fuel level refuelled =>
    exact yardView_of_records_frame (State.postFuel_frame i level refuelled _) (State.postFuel_placements i level refuelled _)

theorem State.doDefrostRequest_yardView (m : Master) (i : RecIdx) (s : State) :
    (s.doDefrostRequest m i).1.yardView = s.yardView := by
  unfold State.doDefrostRequest
  split
  · rfl
  · split
    · rfl
    · refine (State.grantPass_yardView _).trans ?_
      have latch := s.updRecord_yardView i fun r => { r with cancelLatch := false }
      split
      · exact (State.raise_yardView _ _).trans
          ((yardView_of_frame (State.joinQueue_frame _ _ _ _ _) (State.joinQueue_placements _ _ _ _ _)).trans latch)
      · exact latch

theorem State.doDefrostCancel_yardView (i : RecIdx) (s : State) : (s.doDefrostCancel i).1.yardView = s.yardView := by
  unfold State.doDefrostCancel
  simp only
  split
  · exact (State.updRecord_yardView i _ (s.leaveQueue i)).trans rfl
  · split
    · exact (State.grantPass_yardView _).trans (s.endDefrost_yardView i _)
    · exact s.updRecord_yardView i _
  · rfl

theorem State.doHoldClear_yardView (i : RecIdx) (s : State) : (s.doHoldClear i).1.yardView = s.yardView := by
  have removed := yardView_of_records_frame (s.removeActivity_frame i .serviceHold)
    (s.removeActivity_placements i .serviceHold)
  unfold State.doHoldClear
  simp only
  split
  · exact (State.grantPass_yardView _).trans ((yardView_of_frame (State.evaluateDemand_frame _ _)
      (State.evaluateDemand_placements _ _)).trans removed)
  · exact removed

/-- COLLECT writes its record's changed flag alone. -/
theorem State.doCollect_yardView (i : RecIdx) (s : State) : (s.doCollect i).1.yardView = s.yardView := by
  cases hr : s.record? i with
  | none => rw [State.doCollect, hr]
  | some r =>
    rw [State.doCollect, hr]
    refine yardView_of_records_frame rfl ((s.placements_setRecord_some i _).trans ?_)
    exact (congrArg (Function.update s.placements i) (State.placements_eq_some.mpr ⟨r, hr, rfl, rfl⟩).symm).trans
      (Function.update_eq_self i s.placements)

/-- A request on a resolved trailer other than MOVE and RELEASE moves nothing. -/
theorem State.actOn_yardView (m : Master) (req : Request) (res : Resolved) (s : State)
    (hmove : ∀ t b, req ≠ .move t b) (hrelease : ∀ t, req ≠ .release t) :
    (s.actOn m req res).1.yardView = s.yardView := by
  cases req with
  | move t b => exact absurd rfl (hmove t b)
  | release t => exact absurd rfl (hrelease t)
  | recordGet n =>
    show (s.doRecordGet m res.record).1.yardView = _
    unfold State.doRecordGet
    split <;> rfl
  | collect n => exact s.doCollect_yardView res.record
  | recordEdit n load override =>
    show (s.doRecordEdit res.record load override).1.yardView = _
    unfold State.doRecordEdit
    split
    · rfl
    · split
      · rfl
      · exact s.updRecord_yardView res.record _
  | defrostRequest n => exact s.doDefrostRequest_yardView m res.record
  | defrostCancel n => exact s.doDefrostCancel_yardView res.record
  | holdSet n =>
    show (s.doHoldSet m res.record).1.yardView = _
    unfold State.doHoldSet
    split
    · rfl
    · exact yardView_of_records_frame (State.pushActivity_frame _ _ _ _) (State.pushActivity_placements _ _ _ _)
  | holdClear n =>
    simp only [State.actOn]
    split
    · exact s.doHoldClear_yardView res.record
    · rfl
  | fuelPost n level refuelled =>
    exact yardView_of_records_frame (State.postFuel_frame _ _ _ _) (State.postFuel_placements _ _ _ _)
  | checkAdd n k p => exact yardView_of_notices_frame (s.doCheckAdd_frame res.record k p)
  | checkClose t result =>
    simp only [State.actOn]
    split
    · exact s.closeItem_yardView m res.record t result
    · rfl
  | revoke n deferral =>
    simp only [State.actOn]
    split
    · exact (State.grantPass_yardView _).trans (s.endDefrost_yardView res.record _)
    · rfl
  | _ => rfl

/-- Whether a resolution is of the trailer a request names: named by tag, its record holds the tag. -/
def State.resolves (s : State) (req : Request) (res : Resolved) : Prop :=
  ∀ t, req.name = some (.tag t) → ∀ r, s.record? res.record = some r → r.tag = t

theorem State.actOn_lookups (m : Master) (req : Request) (res : Resolved) (s : State) :
    (s.actOn m req res).1.lookups = s.lookups := by
  by_cases hmove : ∃ t b, req = .move t b
  · obtain ⟨t, b, rfl⟩ := hmove
    exact s.doMove_lookups res.record t b
  · by_cases hrelease : ∃ t, req = .release t
    · obtain ⟨t, rfl⟩ := hrelease
      exact s.doRelease_lookups res.record t
    · exact lookups_of_view (s.actOn_yardView m req res (fun t b h => hmove ⟨t, b, h⟩) fun t h => hrelease ⟨t, h⟩)

theorem State.actOn_yardOk {s : State} (ok : s.yardOk) (m : Master) {req : Request} {res : Resolved}
    (found : s.resolves req res) : (s.actOn m req res).1.yardOk := by
  by_cases hmove : ∃ t b, req = .move t b
  · obtain ⟨t, b, rfl⟩ := hmove
    exact State.doMove_yardOk ok (found t rfl) b
  · by_cases hrelease : ∃ t, req = .release t
    · obtain ⟨t, rfl⟩ := hrelease
      exact State.doRelease_yardOk ok (found t rfl)
    · exact yardOk_of_view
        (s.actOn_yardView m req res (fun t b h => hmove ⟨t, b, h⟩) fun t h => hrelease ⟨t, h⟩) ok

theorem State.judge_lookups (m : Master) (req : Request) (n : Subject) (res : Resolved) (s : State) :
    (s.judge m req n res).1.lookups = s.lookups := by
  unfold State.judge
  split
  · exact lookups_of_view (State.raise_yardView _ _)
  · split
    · rfl
    · exact s.actOn_lookups m req res

theorem State.judge_yardOk {s : State} (ok : s.yardOk) (m : Master) {req : Request} {res : Resolved}
    (found : s.resolves req res) (n : Subject) : (s.judge m req n res).1.yardOk := by
  unfold State.judge
  split
  · exact yardOk_of_view (State.raise_yardView _ _) ok
  · split
    · exact ok
    · exact State.actOn_yardOk ok m found

/-! ## Lookups -/

theorem State.startSearch_yardOk {s : State} (ok : s.yardOk) (q : Search) : (s.startSearch q).yardOk := by
  unfold State.startSearch
  split <;> exact ok

theorem State.touch_yardOk {s : State} (ok : s.yardOk) {t : Tag} {way : Fin 4} {e : CacheEntry}
    (hit : s.cacheHit t = some (way, e)) : (s.setCacheSet (tagSet t) (s.cache[tagSet t].touch way)).yardOk := by
  obtain ⟨-, he⟩ := State.cacheHit_eq_some.mp hit
  rw [State.yardOk_iff] at ok ⊢
  obtain ⟨hmap, hcache⟩ := ok
  obtain ⟨hset, names⟩ := hcache (tagSet t)
  exact ⟨hmap, cacheAgrees_set hcache (CacheSet.touch_ok hset (by rw [he]; rfl)) names⟩

theorem State.lookup_yardOk {s : State} (ok : s.yardOk) (w : Waiter) (t : Tag) : (s.lookup w t).1.yardOk := by
  rcases s.lookup_cases w t with ⟨-, h⟩ | ⟨-, way, e, hit, h⟩ | ⟨-, -, h⟩ <;> rw [h]
  · exact ok
  · exact State.touch_yardOk ok hit
  · exact State.startSearch_yardOk ok _

/-- What a valid entry names is placed, holds the tag, and stands at the bay the entry gives. -/
theorem State.placements_of_hit {s : State} (ok : s.yardOk) {t : Tag} {way : Fin 4} {e : CacheEntry}
    (hit : s.cacheHit t = some (way, e)) : s.placements e.record = some (t, e.bay) := by
  obtain ⟨-, he⟩ := State.cacheHit_eq_some.mp hit
  rw [State.yardOk_iff] at ok
  have named := ((ok.2 (tagSet t)).2 way e he).2
  rwa [State.tag_of_cacheHit hit] at named

theorem State.tag_of_placements {s : State} {i : RecIdx} {t : Tag} {b : BayAddr} (h : s.placements i = some (t, b))
    {r : TrailerRecord} (hr : s.record? i = some r) : r.tag = t := by
  obtain ⟨x, hx, ht, -⟩ := State.placements_eq_some.mp h
  rw [hr] at hx
  cases hx
  exact ht

/-! ## What becomes of a request as it is taken -/

theorem State.setCacheSet_lookups (s : State) (k : Fin 4) (c : CacheSet) : (s.setCacheSet k c).lookups = s.lookups := rfl

/-- What the taking of a request leaves of the lookups: an answered request leaves them as they are, and one that is not
answered is held by its port and has joined the engine with the tag it seeks. -/
def State.Taken (m : Master) (s : State) (r : State × Option MasterReply) : Prop :=
  (∃ reply, r.2 = some reply ∧ r.1.lookups = s.lookups) ∨
    (r.2 = none ∧ ∃ held t, (∀ req, held = .request req → req.tagSought = some t) ∧
      r.1.lookups = ((s.startSearch ⟨.master m, t⟩).setActivity m.port (.waiting held)).lookups)

theorem State.Taken.answered {m : Master} {s : State} {r : State × MasterReply} (h : r.1.lookups = s.lookups) :
    State.Taken m s (r.1, some r.2) := .inl ⟨r.2, rfl, h⟩

/-- Only the lookups as they stand before matter. -/
theorem State.Taken.congr {m : Master} {s u : State} {r : State × Option MasterReply} (h : u.lookups = s.lookups)
    (taken : State.Taken m u r) : State.Taken m s r := by
  rcases taken with ⟨reply, hr, hl⟩ | ⟨hr, held, t, hsought, hl⟩
  · exact .inl ⟨reply, hr, hl.trans h⟩
  · refine .inr ⟨hr, held, t, hsought, hl.trans ?_⟩
    simp only [State.lookups, Prod.mk.injEq] at h
    obtain ⟨heng, hwait, hint, hports⟩ := h
    simp only [State.startSearch, heng]
    split <;> simp [State.lookups, State.setActivity, State.setPort, State.port, hwait, hint, hports]

/-- A request goes on with an answer, with the map in agreement: PLACE where its tag is not placed, and a request on a trailer
with the resolution of that trailer. -/
theorem State.goOn_answered {s : State} (m : Master) (req : Request) {a : Answer} (ha : a ≠ .waiting) :
    State.Taken m s (s.goOn m req a) := by
  unfold State.goOn
  split
  · exact absurd rfl ha
  · split
    · exact .inl ⟨_, rfl, rfl⟩
    · split
      · exact .answered (s.judge_lookups m req _ _)
      · exact .inl ⟨_, rfl, rfl⟩
  · split
    · exact .answered (s.doPlace_lookups _ _ _ _)
    · split
      · exact .inl ⟨_, rfl, rfl⟩
      · exact .inl ⟨_, rfl, rfl⟩

theorem State.goOn_yardOk {s : State} (ok : s.yardOk) (m : Master) {req : Request} {a : Answer}
    (found : ∀ res, a = .found res → s.resolves req res)
    (fresh : ∀ t b source load, a = .notFound → req = .place t b source load → s.findTag t = none) :
    (s.goOn m req a).1.yardOk := by
  unfold State.goOn
  split
  · exact ok
  · next res =>
    split
    · exact ok
    · split
      · exact State.judge_yardOk ok m (found res rfl) _
      · exact ok
  · split
    · next t b source load => exact State.doPlace_yardOk ok (fresh t b source load rfl rfl) b source load
    · split <;> exact ok

/-- A lookup for a request: answered from the cache, or at the engine with its port holding it. -/
theorem State.lookupFor_taken (m : Master) {req : Request} {t : Tag} (hsought : req.tagSought = some t) (s : State) :
    State.Taken m s (s.lookupFor m req t) := by
  unfold State.lookupFor
  rcases s.lookup_cases (.master m) t with ⟨-, h⟩ | ⟨-, way, e, -, h⟩ | ⟨-, -, h⟩ <;> rw [h]
  · exact State.goOn_answered m req (a := .notFound) nofun
  · exact (State.goOn_answered m req (a := .found _) nofun).congr (s.setCacheSet_lookups _ _)
  · refine .inr ⟨rfl, .request req, t, fun r hr => ?_, rfl⟩
    cases hr
    exact hsought

theorem State.lookupFor_yardOk {s : State} (ok : s.yardOk) (m : Master) {req : Request} {t : Tag}
    (hname : ∀ u, req.name = some (.tag u) → u = t)
    (hplace : ∀ u b source load, req = .place u b source load → u = t ∧ t ≠ 0) : (s.lookupFor m req t).1.yardOk := by
  unfold State.lookupFor
  rcases s.lookup_cases (.master m) t with ⟨hzero, h⟩ | ⟨-, way, e, hit, h⟩ | ⟨-, -, h⟩ <;> rw [h]
  · refine State.goOn_yardOk ok m (fun res hres => by cases hres) fun u b source load _ hreq => ?_
    exact absurd hzero (hplace u b source load hreq).2
  · refine State.goOn_yardOk (State.touch_yardOk ok hit) m (fun res hres => ?_) fun u b source load hn _ => by cases hn
    cases hres
    intro u hu r hr
    rw [hname u hu]
    exact State.tag_of_placements (State.placements_of_hit ok hit) hr
  · refine State.goOn_yardOk (State.startSearch_yardOk ok _) m (fun res hres => by cases hres)
      fun u b source load hn _ => by cases hn

/-! ## NEXT_CHECK -/

theorem State.issueItem_yardView (it : CheckItem) (b : BayAddr) (s : State) : (s.issueItem it b).1.yardView = s.yardView :=
  rfl

theorem State.offerItems_taken (m : Master) : ∀ (n : Nat) (considered : List Nat) (s : State),
    State.Taken m s (s.offerItems m n considered)
  | 0, _, _ => .inl ⟨_, rfl, rfl⟩
  | n + 1, considered, s => by
    unfold State.offerItems
    split
    · exact .inl ⟨_, rfl, rfl⟩
    · next it _ =>
      rcases s.lookup_cases (.master m) it.tag with ⟨-, h⟩ | ⟨-, way, e, -, h⟩ | ⟨-, -, h⟩ <;> rw [h]
      · exact State.offerItems_taken m n _ s
      · simp only
        split
        · exact .inl ⟨_, rfl, rfl⟩
        · exact (State.offerItems_taken m n _ _).congr (s.setCacheSet_lookups _ _)
      · refine .inr ⟨rfl, _, it.tag, fun r hr => ?_, rfl⟩
        cases hr

theorem State.offerItems_yardOk (m : Master) : ∀ (n : Nat) (considered : List Nat) {s : State}, s.yardOk →
    (s.offerItems m n considered).1.yardOk
  | 0, _, _, ok => ok
  | n + 1, considered, s, ok => by
    unfold State.offerItems
    split
    · exact ok
    · next it _ =>
      rcases s.lookup_cases (.master m) it.tag with ⟨-, h⟩ | ⟨-, way, e, hit, h⟩ | ⟨-, -, h⟩ <;> rw [h]
      · exact State.offerItems_yardOk m n _ ok
      · simp only
        split
        · exact State.touch_yardOk ok hit
        · exact State.offerItems_yardOk m n _ (State.touch_yardOk ok hit)
      · exact State.startSearch_yardOk ok _

theorem State.resumeNextCheck_taken (m : Master) (considered : List Nat) (serial : Nat) (a : Answer) (s : State) :
    State.Taken m s (s.resumeNextCheck m considered serial a) := by
  unfold State.resumeNextCheck
  simp only
  split
  · split
    · exact .inl ⟨_, rfl, rfl⟩
    · exact s.offerItems_taken m _ _
  · exact s.offerItems_taken m _ _

theorem State.resumeNextCheck_yardOk {s : State} (ok : s.yardOk) (m : Master) (considered : List Nat) (serial : Nat)
    (a : Answer) : (s.resumeNextCheck m considered serial a).1.yardOk := by
  unfold State.resumeNextCheck
  simp only
  split
  · split
    · exact ok
    · exact State.offerItems_yardOk m _ _ ok
  · exact State.offerItems_yardOk m _ _ ok

/-! ## A request past its range test -/

/-- A resolution by bay address finds the occupant of the bay. -/
theorem State.resolveBay_ok {s : State} {b : BayAddr} {res : Resolved} (h : s.resolveBay b = .ok res) :
    s.zones[b.zone].isOpen = true ∧ (s.bayAt b).occupant = some res.record ∧
      res = { record := res.record, bay := b, rights := s.rightsAt b, path := .walked } := by
  unfold State.resolveBay at h
  split at h
  · next hopen =>
    split at h
    · cases h
    · next i hi =>
      cases h
      exact ⟨hopen, hi, rfl⟩
  · cases h

theorem Request.tagSought_of_name {req : Request} {t : Tag} (h : req.name = some (.tag t)) : req.tagSought = some t := by
  cases req <;> simp_all [Request.tagSought, Request.name]

theorem State.takeRequest_taken (m : Master) (req : Request) (s : State) : State.Taken m s (s.takeRequest m req) := by
  unfold State.takeRequest
  split
  · unfold State.startNextCheck
    split
    · exact .inl ⟨_, rfl, rfl⟩
    · exact s.offerItems_taken m _ _
  · split
    · exact s.lookupFor_taken m rfl
    · exact .inl ⟨_, rfl, rfl⟩
  · split
    · exact .answered (s.actPlain_lookups m req)
    · next t ht => exact s.lookupFor_taken m (Request.tagSought_of_name ht)
    · split
      · exact .inl ⟨_, rfl, rfl⟩
      · exact .answered (s.judge_lookups m req _ _)

theorem State.takeRequest_yardOk {s : State} (ok : s.yardOk) (m : Master) {req : Request}
    (hplace : ∀ t b source load, req = .place t b source load → t ≠ 0) : (s.takeRequest m req).1.yardOk := by
  unfold State.takeRequest
  split
  · unfold State.startNextCheck
    split
    · exact ok
    · exact State.offerItems_yardOk m _ _ ok
  · next t b source load =>
    split
    · refine State.lookupFor_yardOk ok m (fun u hu => by cases hu) fun u b' source' load' h => ?_
      cases h
      exact ⟨rfl, hplace _ _ _ _ rfl⟩
    · exact ok
  · next hnext hno =>
    split
    · exact State.actPlain_yardOk ok m req
    · next t ht =>
      refine State.lookupFor_yardOk ok m (fun u hu => ?_) fun u b source load h => absurd h (hno u b source load)
      rw [ht] at hu
      cases hu
      rfl
    · next b hb =>
      split
      · exact ok
      · refine State.judge_yardOk ok m (fun t ht => ?_) _
        rw [hb] at ht
        cases ht

end Sys2Proof.Machine
end

section
/-! # The lookups at the engine and their callers -/

namespace Sys2Proof.Machine

open Sys2Proof

/-- The lookups at the engine and in its wait list, oldest first. -/
def State.sought (s : State) : List Search := s.engine.toList ++ s.waitList

/-- No lookup waits at an IDLE engine. -/
def State.engineFirst (s : State) : Prop := s.engine = none → s.waitList = []

/-- Each lookup of a list is one its caller waits for, and each caller has one. -/
def State.callersWait (s : State) (l : List Search) : Prop :=
  (l.map Search.waiter).Nodup ∧
    ∀ q ∈ l, (q.waiter = .intake → s.intake = .translating) ∧
      ∀ m, q.waiter = .master m → ∃ held, (s.port m.port).activity = .waiting held ∧
        ∀ req, held = .request req → req.tagSought = some q.tag

theorem State.searchesOk_iff (s : State) : s.searchesOk ↔ s.callersWait s.sought ∧ s.engineFirst := by
  constructor
  · rintro ⟨nodup, first, callers⟩
    exact ⟨⟨nodup, callers⟩, first⟩
  · rintro ⟨⟨nodup, callers⟩, first⟩
    exact ⟨nodup, first, callers⟩

theorem searchesOk_of_lookups {s t : State} (h : t.lookups = s.lookups) (ok : s.searchesOk) : t.searchesOk := by
  simp only [State.lookups, Prod.mk.injEq] at h
  obtain ⟨heng, hwait, hint, hports⟩ := h
  simpa only [State.searchesOk, heng, hwait, hint, hports, State.port] using ok

/-- No lookup of a list has the caller. -/
def unsought (l : List Search) (w : Waiter) : Prop := ∀ q ∈ l, q.waiter ≠ w

theorem State.callersWait.tail {s : State} {q : Search} {l : List Search} (h : s.callersWait (q :: l)) :
    s.callersWait l ∧ unsought l q.waiter := by
  obtain ⟨nodup, callers⟩ := h
  rw [List.map_cons, List.nodup_cons] at nodup
  exact ⟨⟨nodup.2, fun x hx => callers x (List.mem_cons_of_mem _ hx)⟩,
    fun x hx hw => nodup.1 (hw ▸ List.mem_map_of_mem hx)⟩

/-- A caller that joins the lookups for the first time, and waits. -/
theorem State.callersWait.append {s : State} {q : Search} {l : List Search} (h : s.callersWait l)
    (new : unsought l q.waiter) (hq : s.callersWait [q]) : s.callersWait (l ++ [q]) := by
  obtain ⟨nodup, callers⟩ := h
  refine ⟨?_, fun x hx => ?_⟩
  · rw [List.map_append, List.nodup_append]
    refine ⟨nodup, hq.1, fun a ha b hb => ?_⟩
    obtain ⟨x, hx, rfl⟩ := List.mem_map.mp ha
    rw [List.map_singleton, List.mem_singleton] at hb
    rw [hb]
    exact new x hx
  · rcases List.mem_append.mp hx with hx | hx
    · exact callers x hx
    · exact hq.2 x hx

/-- A change of a port, and of nothing else the lookups answer to, keeps the callers waiting where the port is not one of
theirs, or goes on as it was. -/
theorem State.callersWait.of_port {s t : State} {l : List Search} (h : s.callersWait l) (hint : t.intake = s.intake)
    (hports : ∀ m, Waiter.master m ∈ l.map Search.waiter → (t.port m.port).activity = (s.port m.port).activity) :
    t.callersWait l := by
  obtain ⟨nodup, callers⟩ := h
  refine ⟨nodup, fun q hq => ?_⟩
  obtain ⟨intake, master⟩ := callers q hq
  refine ⟨fun hw => hint.trans (intake hw), fun m hw => ?_⟩
  rw [hports m (hw ▸ List.mem_map_of_mem hq)]
  exact master m hw

/-- A change of what the Report Intake does keeps the callers waiting where it is not one of them. -/
theorem State.callersWait.of_intake {s t : State} {l : List Search} (h : s.callersWait l) (new : unsought l .intake)
    (hports : t.ports = s.ports) : t.callersWait l := by
  obtain ⟨nodup, callers⟩ := h
  refine ⟨nodup, fun q hq => ⟨fun hw => absurd hw (new q hq), fun m hw => ?_⟩⟩
  obtain ⟨held, hact, hsought⟩ := (callers q hq).2 m hw
  exact ⟨held, by rw [State.port, hports]; exact hact, hsought⟩

theorem Master.port_injective {m n : Master} (h : m.port = n.port) : m = n := by
  cases m <;> cases n <;> first | rfl | cases h

/-- A port with nothing waiting is no caller. -/
theorem State.callersWait.unsought_of_port {s : State} {l : List Search} (h : s.callersWait l) {m : Master}
    (hport : ∀ held, (s.port m.port).activity ≠ .waiting held) : unsought l (.master m) := fun q hq hw =>
  let ⟨held, hact, _⟩ := (h.2 q hq).2 m hw
  hport held hact

theorem State.callersWait.unsought_of_intake {s : State} {l : List Search} (h : s.callersWait l)
    (hint : s.intake ≠ .translating) : unsought l .intake := fun q hq hw => hint ((h.2 q hq).1 hw)

/-- A port rewritten that is no caller's, or that goes on as it was. -/
theorem State.callersWait.setPort {s : State} {l : List Search} (h : s.callersWait l) (p : PortId) (x : Port)
    (hp : (∀ m : Master, m.port = p → unsought l (.master m)) ∨ x.activity = (s.port p).activity) :
    (s.setPort p x).callersWait l := by
  refine h.of_port rfl fun m hm => ?_
  by_cases hmp : p = m.port
  · subst hmp
    rw [State.port_setPort_self]
    rcases hp with hp | hp
    · obtain ⟨q, hq, hw⟩ := List.mem_map.mp hm
      exact absurd hw (hp m rfl q hq)
    · exact hp
  · rw [State.port_setPort_ne _ _ hmp]

theorem State.setPort_searchesOk {s : State} (ok : s.searchesOk) (p : PortId) (x : Port)
    (hp : (∀ held, (s.port p).activity ≠ .waiting held) ∨ x.activity = (s.port p).activity) :
    (s.setPort p x).searchesOk := by
  rw [State.searchesOk_iff] at ok ⊢
  refine ⟨ok.1.setPort p x (hp.imp_left fun hp m hm => ?_), ok.2⟩
  subst hm
  exact ok.1.unsought_of_port hp

/-! ## The engine -/

/-- A lookup that misses joins the tail of those at the engine. -/
theorem State.startSearch_sought {s : State} (first : s.engineFirst) (q : Search) :
    (s.startSearch q).sought = s.sought ++ [q] ∧ (s.startSearch q).engineFirst := by
  unfold State.startSearch
  split
  · next h => simp [State.sought, State.engineFirst, h, first h]
  · next x h => simp [State.sought, State.engineFirst, h]

/-- The engine goes on to the next of the lookups. -/
theorem State.nextSearch_sought {s : State} (first : s.engineFirst) :
    s.nextSearch.sought = s.sought.tail ∧ s.nextSearch.engineFirst := by
  cases he : s.engine with
  | none => simp [State.sought, State.engineFirst, State.nextSearch, he, first he]
  | some q => cases hw : s.waitList <;> simp [State.sought, State.engineFirst, State.nextSearch, he, hw]

theorem State.callersWait.nextSearch {s : State} {l : List Search} (h : s.callersWait l) : s.nextSearch.callersWait l := h

theorem State.startSearch_ports (q : Search) (s : State) :
    (s.startSearch q).ports = s.ports ∧ (s.startSearch q).intake = s.intake := by
  unfold State.startSearch
  split <;> exact ⟨rfl, rfl⟩

/-! ## Requests -/

/-- What `State.answer` and `State.refuse` leave their port doing: a reply, or an answer the restart loses. -/
theorem beginReply_searches (p : PortId) (kind : Byte) (body : ReplyBody) (s : State) :
    ∃ a, (∀ held, a ≠ .waiting held) ∧ s.beginReply p kind body = s.setActivity p a := by
  unfold State.beginReply
  split
  · exact ⟨.awaitingRestart, (fun _ h => by cases h), rfl⟩
  · exact ⟨.replying { kind := kind, body := body }, (fun _ h => by cases h), rfl⟩

/-- A request taken or resumed on the port of a master that is no caller leaves the lookups with one more of that master's, or
as they were. -/
theorem State.Taken.searches {m : Master} {s : State} {r : State × Option MasterReply} (taken : State.Taken m s r)
    (first : s.engineFirst) (kind : Byte) :
    ∃ more, (State.answer m kind r).sought = s.sought ++ more ∧ (State.answer m kind r).engineFirst ∧
      ∀ l, s.callersWait l → unsought l (.master m) → (State.answer m kind r).callersWait (l ++ more) := by
  obtain ⟨t, reply⟩ := r
  rcases taken with ⟨x, rfl, hl⟩ | ⟨rfl, held, u, hsought, hl⟩
  · simp only [State.lookups, Prod.mk.injEq] at hl
    obtain ⟨heng, hwait, hint, hports⟩ := hl
    obtain ⟨a, -, ha⟩ := beginReply_searches m.port kind (.master x) t
    have answered : State.answer m kind (t, some x) = t.setActivity m.port a := ha
    rw [answered]
    refine ⟨[], ?_, ?_, fun l hwaiting hnew => ?_⟩
    · simp [State.sought, heng, hwait]
    · simpa [State.engineFirst, heng, hwait] using first
    · rw [List.append_nil]
      refine State.callersWait.setPort (hwaiting.of_port hint fun n _ => by rw [State.port, hports]; rfl) _ _
        (.inl fun n hn => ?_)
      rw [Master.port_injective hn]
      exact hnew
  · have held' : State.answer m kind (t, none) = t := rfl
    rw [held']
    simp only [State.lookups, Prod.mk.injEq] at hl
    obtain ⟨heng, hwait, hint, hports⟩ := hl
    obtain ⟨hs, hfirst⟩ := s.startSearch_sought first ⟨.master m, u⟩
    obtain ⟨sports, sintake⟩ := s.startSearch_ports ⟨.master m, u⟩
    refine ⟨[⟨.master m, u⟩], ?_, ?_, fun l hwaiting hnew => ?_⟩
    · rw [← hs, State.sought, heng, hwait]
      rfl
    · intro h
      rw [hwait]
      exact hfirst (heng.symm.trans h)
    · have port : t.port m.port = { s.port m.port with activity := .waiting held } := by
        rw [State.port, hports]
        show ((s.startSearch _).setActivity m.port _).port m.port = _
        rw [State.setActivity, State.port_setPort_self, State.port, sports]
        rfl
      refine State.callersWait.append (hwaiting.of_port (hint.trans sintake) fun n hn => ?_) hnew
        ⟨List.nodup_singleton _, fun q hq => ?_⟩
      · have hmn : m.port ≠ n.port := by
          intro h
          obtain ⟨q, hq, hw⟩ := List.mem_map.mp hn
          exact hnew q hq (Master.port_injective h ▸ hw)
        rw [State.port, hports]
        show (((s.startSearch _).setActivity m.port _).port n.port).activity = _
        rw [State.setActivity, State.port_setPort_ne _ _ hmn, State.port, sports]
        rfl
      · obtain rfl := List.mem_singleton.mp hq
        refine ⟨nofun, fun n hn => ?_⟩
        cases hn
        exact ⟨held, by rw [port], hsought⟩

theorem State.answer_yardOk {m : Master} {kind : Byte} {r : State × Option MasterReply} (ok : r.1.yardOk) :
    (State.answer m kind r).yardOk := by
  unfold State.answer
  split
  · exact ok
  · exact ok

/-! ## What the part takes of its own accord -/

/-- The three invariants together. -/
def State.mapKept (s : State) : Prop := s.yardOk ∧ s.searchesOk

theorem mapKept_of_view {s t : State} (h : t.yardView = s.yardView) (ok : s.mapKept) : t.mapKept :=
  ⟨yardOk_of_view h ok.1, searchesOk_of_lookups (lookups_of_view h) ok.2⟩

/-! ## The Report Intake -/

/-- The part with the Report Intake doing something else. -/
def State.withIntake (s : State) (i : IntakeState) : State := { s with intake := i }

theorem yardView_withIntake {s t : State} (h : t.yardView = s.yardView) (i : IntakeState) :
    (t.withIntake i).yardView = (s.withIntake i).yardView := congrArg (fun v : YardView => { v with intake := i }) h

/-- A head discarded moves nothing, and leaves the Report Intake IDLE. -/
theorem State.discardUnknown_yardView (u : UnitReport) (s : State) :
    (s.discardUnknown u).yardView = (s.withIntake .idle).yardView :=
  yardView_withIntake (State.raise_yardView ⟨.tagAlone u.tag, .unknownUnit u.sequence⟩ s) .idle

theorem State.dropHead_yardView (s : State) : s.dropHead.yardView = (s.withIntake .idle).yardView := rfl

theorem State.answerIntake_yardView (a : Answer) (s : State) :
    ∃ i, (s.answerIntake a).yardView = (s.withIntake i).yardView := by
  unfold State.answerIntake
  split
  · exact ⟨_, rfl⟩
  · exact ⟨_, s.discardUnknown_yardView _⟩
  · exact ⟨_, rfl⟩
  · exact ⟨_, rfl⟩

/-- The lookups of others than the Report Intake wait on whatever it does. -/
theorem searches_of_intake {s t : State} {i : IntakeState} (h : t.yardView = (s.withIntake i).yardView) :
    t.sought = s.sought ∧ (s.engineFirst → t.engineFirst) ∧ (s.yardOk → t.yardOk) ∧
      ∀ l, s.callersWait l → unsought l .intake → t.callersWait l := by
  have ok : s.yardOk → t.yardOk := fun ok => yardOk_of_view h ok
  obtain ⟨-, -, -, heng, hwait, -, hports⟩ := YardView.mk.inj h
  refine ⟨?_, fun first ht => ?_, ok, fun l hl new => hl.of_intake new hports⟩
  · rw [State.sought, heng, hwait]
    rfl
  · rw [hwait]
    exact first (heng.symm.trans ht)

theorem mapKept_of_intake {s t : State} {i : IntakeState} (h : t.yardView = (s.withIntake i).yardView)
    (hs : s.intake ≠ .translating) (ok : s.mapKept) : t.mapKept := by
  obtain ⟨yard, searches⟩ := ok
  obtain ⟨sought, first, keeps, callers⟩ := searches_of_intake h
  rw [State.searchesOk_iff] at searches
  refine ⟨keeps yard, t.searchesOk_iff.mpr ⟨?_, first searches.2⟩⟩
  rw [sought]
  exact callers _ searches.1 (searches.1.unsought_of_intake hs)

theorem State.takeHead_mapKept {s : State} (ok : s.mapKept) : s.takeHead.mapKept := by
  unfold State.takeHead
  split
  · next u rest hidle hfifo =>
    have idle : s.intake ≠ .translating := by rw [hidle]; nofun
    split
    · exact mapKept_of_intake (i := .idle) rfl idle ok
    · rcases s.lookup_cases .intake u.tag with ⟨-, h⟩ | ⟨-, way, e, hit, h⟩ | ⟨-, -, h⟩ <;> rw [h]
      · obtain ⟨i, hi⟩ := s.answerIntake_yardView .notFound
        exact mapKept_of_intake hi idle ok
      · refine mapKept_of_intake (i := .translated e.record) rfl idle
          (s := s.setCacheSet (tagSet u.tag) (s.cache[tagSet u.tag].touch way)) ⟨State.touch_yardOk ok.1 hit, ?_⟩
        exact searchesOk_of_lookups (s.setCacheSet_lookups _ _) ok.2
      · obtain ⟨callers, first⟩ := s.searchesOk_iff.mp ok.2
        obtain ⟨sought, first'⟩ := s.startSearch_sought first ⟨.intake, u.tag⟩
        obtain ⟨ports, -⟩ := s.startSearch_ports ⟨.intake, u.tag⟩
        have new := callers.unsought_of_intake idle
        refine ⟨State.startSearch_yardOk ok.1 _, (State.searchesOk_iff _).mpr ⟨?_, first'⟩⟩
        show State.callersWait ((s.startSearch _).withIntake .translating) (s.startSearch _).sought
        rw [sought]
        refine State.callersWait.append (q := ⟨.intake, u.tag⟩) (State.callersWait.of_intake callers new ports) new ⟨List.nodup_singleton _, fun q hq => ?_⟩
        obtain rfl := List.mem_singleton.mp hq
        exact ⟨fun _ => rfl, fun m hm => by cases hm⟩
  · exact ok

theorem State.applyHead_mapKept {s : State} (ok : s.mapKept) : s.applyHead.mapKept := by
  unfold State.applyHead
  split
  · next i u rest hint _ =>
    have translated : s.intake ≠ .translating := by rw [hint]; nofun
    split
    · exact mapKept_of_intake (s.discardUnknown_yardView u) translated ok
    · next r _ =>
      split
      · exact mapKept_of_intake (s.discardUnknown_yardView u) translated ok
      · split
        · exact mapKept_of_intake (i := .idle) rfl translated ok
        · split
          · exact mapKept_of_intake (i := .idle) rfl translated ok
          · next echo _ =>
            have applied := yardView_of_frame (s.applyReport_frame i r u echo) (s.applyReport_placements i r u echo)
            exact mapKept_of_intake ((State.dropHead_yardView _).trans (yardView_withIntake applied .idle)) translated ok
  · exact ok

/-! ## Searches -/

/-- A search that completes finds no placed record, or finds one that holds the tag and fills the cache with it. -/
theorem State.searchResult_cases (t : Tag) (s : State) :
    (s.findTag t = none ∧ s.searchResult t = (s, .notFound)) ∨
      ∃ i r, s.findTag t = some i ∧ s.record? i = some r ∧ r.tag = t ∧
        s.searchResult t = (s.fillCache { tag := t, record := i, bay := r.bay, rights := s.rightsAt r.bay },
          .found { record := i, bay := r.bay, rights := s.rightsAt r.bay, path := .walked }) := by
  cases hi : s.findTag t with
  | none => exact .inl ⟨rfl, by rw [State.searchResult, hi]⟩
  | some i =>
    obtain ⟨r, hr, ht⟩ := State.findTag_eq_some hi
    exact .inr ⟨i, r, rfl, hr, ht, by rw [State.searchResult, hi]; simp only [hr]⟩

theorem State.fillCache_yardOk {s : State} (ok : s.yardOk) {e : CacheEntry}
    (he : s.placements e.record = some (e.tag, e.bay)) : (s.fillCache e).yardOk := by
  rw [State.yardOk_iff] at ok ⊢
  exact ⟨ok.1, cacheAgrees_fill ok.2 he⟩

theorem State.resume_taken (m : Master) (held : Held) {a : Answer} (ha : a ≠ .waiting) (s : State) :
    State.Taken m s (s.resume m held a) := by
  cases held with
  | request req => exact State.goOn_answered m req ha
  | nextCheck considered item => exact s.resumeNextCheck_taken m considered item a

/-- What a port holds goes on with an answer of the tag it seeks, the map staying in agreement. -/
theorem State.resume_yardOk {s : State} (ok : s.yardOk) (m : Master) {held : Held} {t : Tag} {a : Answer}
    (hsought : ∀ req, held = .request req → req.tagSought = some t)
    (found : ∀ res, a = .found res → ∀ r, s.record? res.record = some r → r.tag = t)
    (fresh : a = .notFound → s.findTag t = none) : (s.resume m held a).1.yardOk := by
  cases held with
  | nextCheck considered item => exact State.resumeNextCheck_yardOk ok m considered item a
  | request req =>
    have sought := hsought req rfl
    refine State.goOn_yardOk ok m (fun res hres u hu r hr => ?_) fun u b source load hn hreq => ?_
    · rw [Request.tagSought_of_name hu] at sought
      rw [found res hres r hr, ← Option.some.inj sought]
    · subst hreq
      rw [Option.some.inj sought]
      exact fresh hn

/-- The answer of the oldest lookup reaches its caller, and the engine goes on to the next. -/
theorem State.deliver_mapKept {s : State} {q : Search} (yard : s.yardOk) (callers : s.callersWait s.sought)
    (first : s.engineFirst) (hq : s.engine = some q) {a : Answer} (ha : a ≠ .waiting)
    (found : ∀ res, a = .found res → ∀ r, s.record? res.record = some r → r.tag = q.tag)
    (fresh : a = .notFound → s.findTag q.tag = none) : (s.deliver q.waiter a).nextSearch.mapKept := by
  have oldest : s.sought = q :: s.waitList := by simp [State.sought, hq]
  rw [oldest] at callers
  obtain ⟨rest, new⟩ := callers.tail
  obtain ⟨w, t⟩ := q
  cases w with
  | intake =>
    obtain ⟨i, hi⟩ := s.answerIntake_yardView a
    obtain ⟨sought, first', keeps, waiting⟩ := searches_of_intake hi
    obtain ⟨next, nextFirst⟩ := State.nextSearch_sought (first' first)
    refine ⟨keeps yard, (State.searchesOk_iff _).mpr ⟨?_, nextFirst⟩⟩
    show State.callersWait (s.answerIntake a).nextSearch (s.answerIntake a).nextSearch.sought
    rw [next, sought, oldest]
    exact (waiting _ rest new).nextSearch
  | master m =>
    obtain ⟨held, hact, hsought⟩ := (callers.2 _ List.mem_cons_self).2 m rfl
    have resumed : s.deliver (.master m) a = State.answer m held.code (s.resume m held a) := by
      rw [State.deliver, hact]
    rw [resumed]
    obtain ⟨more, sought, first', waiting⟩ := (s.resume_taken m held ha).searches first held.code
    obtain ⟨next, nextFirst⟩ := State.nextSearch_sought first'
    refine ⟨State.answer_yardOk (m := m) (kind := held.code) (State.resume_yardOk yard m hsought found fresh),
      (State.searchesOk_iff _).mpr ⟨?_, nextFirst⟩⟩
    rw [next, sought, oldest]
    exact (waiting _ rest new).nextSearch

theorem State.completeSearch_mapKept {s : State} (ok : s.mapKept) : s.completeSearch.mapKept := by
  obtain ⟨yard, searches⟩ := ok
  obtain ⟨callers, first⟩ := s.searchesOk_iff.mp searches
  unfold State.completeSearch
  split
  · exact ⟨yard, searches⟩
  · next q hq =>
    rcases s.searchResult_cases q.tag with ⟨hnone, h⟩ | ⟨i, r, -, hr, ht, h⟩ <;> rw [h]
    · exact State.deliver_mapKept yard callers first hq nofun (fun res hres => by cases hres) fun _ => hnone
    · refine State.deliver_mapKept (State.fillCache_yardOk yard ?_) callers first hq nofun (fun res hres x hx => ?_) nofun
      · exact State.placements_eq_some.mpr ⟨r, hr, ht, rfl⟩
      · cases hres
        have same : s.record? i = some x := hx
        rw [hr] at same
        cases same
        exact ht

/-! ## Frames -/

theorem State.setActivity_mapKept {s : State} (ok : s.mapKept) {p : PortId}
    (hp : ∀ held, (s.port p).activity ≠ .waiting held) (a : PortActivity) : (s.setActivity p a).mapKept :=
  ⟨ok.1, State.setPort_searchesOk ok.2 p _ (.inl hp)⟩

theorem State.beginReply_mapKept {s : State} (ok : s.mapKept) {p : PortId}
    (hp : ∀ held, (s.port p).activity ≠ .waiting held) (kind : Byte) (body : ReplyBody) :
    (s.beginReply p kind body).mapKept := State.setActivity_mapKept ok hp _

theorem ports_of_view {s t : State} (h : t.yardView = s.yardView) (p : PortId) : t.port p = s.port p := by
  obtain ⟨-, -, -, -, -, -, hports⟩ := YardView.mk.inj h
  rw [State.port, hports]
  rfl

theorem State.takeUnit_mapKept {s : State} (ok : s.mapKept) (hp : ∀ held, (s.port .unt).activity ≠ .waiting held)
    (k : Kind) (body : List Byte) : (s.takeUnit k body).mapKept := by
  have reply : ∀ (u : State) (kind : Byte) (status : UnitStatus), u.yardView = s.yardView →
      (u.replyUnit kind status).mapKept := by
    intro u kind status hu
    have sent := (yardView_of_records_frame u.sendHead_frame u.sendHead_placements).trans hu
    exact State.beginReply_mapKept (mapKept_of_view sent ok) (by rwa [ports_of_view sent]) kind _
  unfold State.takeUnit
  split
  · refine reply _ _ _ ?_
    unfold State.arrive
    split
    · rfl
    · exact State.raise_yardView _ _
  · exact reply s _ _ rfl

theorem State.judgeFrame_mapKept {s : State} (ok : s.mapKept) {p : PortId} (hp : (s.port p).activity = .free)
    (kind : Byte) (body : List Byte) : (s.judgeFrame p kind body).mapKept := by
  have free : ∀ held, (s.port p).activity ≠ .waiting held := by
    rw [hp]
    exact fun _ h => by cases h
  unfold State.judgeFrame
  split
  · exact State.beginReply_mapKept ok free _ _
  · split
    · exact State.beginReply_mapKept ok free _ _
    · split
      · exact State.beginReply_mapKept ok free _ _
      · next hlength =>
        split
        · next hm =>
          have unt : p = .unt := by
            cases p <;> first | rfl | cases hm
          subst unt
          exact State.takeUnit_mapKept ok free _ _
        · next m hm =>
          obtain rfl : p = m.port := by
            cases p <;> cases hm <;> rfl
          split
          · exact State.beginReply_mapKept ok free _ _
          · next req hreq =>
            obtain ⟨yard, searches⟩ := ok
            obtain ⟨callers, first⟩ := s.searchesOk_iff.mp searches
            obtain ⟨more, sought, first', waiting⟩ := (s.takeRequest_taken m req).searches first kind
            refine ⟨State.answer_yardOk (m := m) (kind := kind) (State.takeRequest_yardOk yard m fun t b source load h => ?_),
              (State.searchesOk_iff _).mpr ⟨?_, first'⟩⟩
            · subst h
              exact tag_ne_zero_of_parse (not_not.mp hlength) hreq
            · rw [sought]
              exact waiting _ callers (callers.unsought_of_port free)

theorem State.setPort_mapKept {s : State} (ok : s.mapKept) (p : PortId) {x : Port}
    (hx : x.activity = (s.port p).activity) : (s.setPort p x).mapKept :=
  ⟨ok.1, State.setPort_searchesOk ok.2 p x (.inr hx)⟩

theorem State.receiveFrame_mapKept {s : State} (ok : s.mapKept) (p : PortId) (kind : Byte) (body : List Byte) :
    (State.receiveFrame p kind body s).mapKept := by
  by_cases hsupply : s.supply = .inService
  · have received : (s.received p).mapKept := State.setPort_mapKept ok p rfl
    rw [receiveFrame_inService hsupply]
    split
    · next hfree => exact State.judgeFrame_mapKept received (by rw [State.port_received_self]; exact hfree) kind body
    · unfold State.oweBusy
      split
      · exact received
      · exact received
      · exact State.setPort_mapKept received p rfl
  · rwa [receiveFrame_outOfService hsupply]

/-! ## Lines, ticks and supplies -/

theorem State.setReceiver_mapKept {s : State} (ok : s.mapKept) (p : PortId) (r : Receiver) :
    (s.setReceiver p r).mapKept := by
  unfold State.setReceiver
  split
  · exact State.setPort_mapKept ok p rfl
  · exact ok

theorem State.completeReply_mapKept {s : State} (ok : s.mapKept) (p : PortId) : (s.completeReply p).mapKept := by
  have leave : (∀ held, (s.port p).activity ≠ .waiting held) → ∀ x, (s.setPort p x).mapKept := fun hp x =>
    ⟨ok.1, State.setPort_searchesOk ok.2 p x (.inl hp)⟩
  unfold State.completeReply
  simp only
  split
  · exact ok
  · split
    · next r hr =>
      have replying : ∀ held, (s.port p).activity ≠ .waiting held := by
        rw [hr]
        exact fun _ h => by cases h
      split
      · exact mapKept_of_view rfl (leave replying _)
      · exact leave replying _
    · next k hk =>
      refine leave ?_ _
      rw [hk]
      exact fun _ h => by cases h
    all_goals exact ok

theorem State.settle_mapKept {s : State} (ok : s.mapKept) : s.settle.mapKept :=
  mapKept_of_view (yardView_of_frame (t := s.settle) (s := { s with due := [] }) s.settle_frame s.settle_placements) ok

theorem State.takeDue_mapKept {s : State} (ok : s.mapKept) (e : TickEvent) : (s.takeDue e).mapKept := by
  unfold State.takeDue
  split
  · have due : { s with due := s.due.erase e }.mapKept := ok
    exact mapKept_of_view (yardView_of_frame (State.take_frame e _) (State.take_placements e _)) due
  · exact ok

theorem yardView_setTicked (s : State) (c : Clock) (k : List CheckItem) (d : PerMaster Desk) (u : List TickEvent) :
    { s with clock := c, checks := k, desks := d, due := u }.yardView = s.yardView := rfl

theorem State.secondTick_mapKept {s : State} (ok : s.mapKept) : s.secondTick.mapKept := by
  unfold State.secondTick
  split
  · have ticked : s.tickRecords.mapKept :=
      mapKept_of_view (mapRecords_yardView (fun _ => TrailerRecord.tick) s fun _ _ => ⟨rfl, rfl⟩) ok
    exact mapKept_of_view (yardView_setTicked s.tickRecords _ _ _ _) ticked
  · split <;> exact ok
  · exact ok

/-- A part with nothing at its engine has its lookups in order. -/
theorem searchesOk_of_idle {s : State} (he : s.engine = none) (hw : s.waitList = []) : s.searchesOk := by
  refine s.searchesOk_iff.mpr ⟨?_, fun _ => hw⟩
  simp [State.sought, he, hw, State.callersWait]

theorem cold_mapKept {s : State} {strap : Bool} (h : s.yardView = (State.cold strap).yardView) : s.mapKept := by
  have placed : (State.cold strap).placements = fun _ => none := by
    funext i
    simp [State.placements, State.record?, State.cold]
  have occ : (State.cold strap).occupants = fun _ => none := by
    funext b
    simp [State.occupants, State.bayAt, State.cold, BayEntry.cold]
  have ok : (State.cold strap).yardOk := by
    rw [State.yardOk_iff, placed, occ]
    exact ⟨⟨nofun, nofun, nofun⟩, cacheAgrees_cold _⟩
  exact mapKept_of_view h ⟨ok, searchesOk_of_idle rfl rfl⟩

theorem State.warmRestart_records (s : State) (cause : RestartCause) (strap : Bool) :
    (s.warmRestart cause strap).records =
      Vector.ofFn fun i => (s.record? i).map fun r => r.restarted (s.effectiveThreshold r) := rfl

theorem State.warmRestart_bays (s : State) (cause : RestartCause) (strap : Bool) :
    (s.warmRestart cause strap).bays = s.bays := by
  simp only [State.warmRestart, State.rebuildQueue, State.clearVolatile]

theorem TrailerRecord.restarted_place (r : TrailerRecord) (threshold : Nat) :
    (r.restarted threshold).tag = r.tag ∧ (r.restarted threshold).bay = r.bay := ⟨rfl, rfl⟩

theorem State.warmRestart_mapKept {s : State} (ok : s.mapKept) (cause : RestartCause) (strap : Bool) :
    (s.warmRestart cause strap).mapKept := by
  have placed : (s.warmRestart cause strap).placements = s.placements :=
    placements_of_ofFn (s.warmRestart_records cause strap) fun _ r => r.restarted_place _
  have occ : (s.warmRestart cause strap).occupants = s.occupants :=
    occupants_of_bays (s.warmRestart_bays cause strap)
  obtain ⟨hmap, -⟩ := s.yardOk_iff.mp ok.1
  refine ⟨(State.yardOk_iff _).mpr ⟨?_, cacheAgrees_cold _⟩, searchesOk_of_idle rfl rfl⟩
  rwa [placed, occ]

theorem State.failMains_mapKept {s : State} (ok : s.mapKept) : s.failMains.mapKept := by
  unfold State.failMains
  split
  · exact ⟨ok.1, searchesOk_of_idle rfl rfl⟩
  · exact ok
  · exact ok

theorem State.returnMains_mapKept {s : State} (ok : s.mapKept) (strap : Bool) : (s.returnMains strap).mapKept := by
  unfold State.returnMains
  split
  · split
    · exact cold_mapKept (strap := strap) rfl
    · exact State.warmRestart_mapKept ok _ strap
  · exact ok
  · exact ok

theorem State.yardRestart_mapKept {s : State} (ok : s.mapKept) (strap : Bool) : (s.yardRestart strap).mapKept := by
  unfold State.yardRestart
  split
  · exact State.warmRestart_mapKept ok _ strap
  · exact ok

theorem State.applySupply_mapKept {s : State} (ok : s.mapKept) : s.applySupply.mapKept := by
  unfold State.applySupply
  split <;> exact ok

theorem State.endPulse_mapKept {s : State} (ok : s.mapKept) (m : Master) : (s.endPulse m).mapKept := by
  unfold State.endPulse
  split <;> exact ok

theorem State.whenInService_mapKept {s : State} (ok : s.mapKept) {f : State → State} (hf : (f s).mapKept) :
    (s.whenInService f).mapKept := by
  unfold State.whenInService
  split
  · exact hf
  · exact ok

/-! ## Every command -/

/-- Every command keeps the map, the Tag Cache and the lookups in agreement. -/
theorem exec_mapKept {c : Instr} {s t : State} (ok : s.mapKept) (h : exec c s = .next t) : t.mapKept := by
  have settled := State.settle_mapKept ok
  cases c with
  | unitReport p body | poll p body | unknownKind p kind body | portBusy p kind body | zoneSet p body | zoneGet p body
  | baySet p body | place p body | move p body | release p body | recordGet p body | recordEdit p body | collect p body
  | scanChanged p body | sweepSeen p body | flushTags p body | clockSet p body | clockTrim p body | clockGet p body
  | planSet p body | planGet p body | linkSet p body | linkGet p body | configSet p body | configGet p body
  | defrostRequest p body | defrostCancel p body | holdSet p body | holdClear p body | fuelPost p body | checkAdd p body
  | checkClose p body | checkList p body | queueGet p body | feederGet p body | fetchNotice p body | holdNotices p body
  | releaseNotices p body | statusGet p body | yardRestart p body | setBudget p body | revoke p body | nextCheck p body =>
    cases h
    exact State.receiveFrame_mapKept settled p _ body
  | frameCheckFail p | interbyteTimeout p | syncByte p =>
    cases h
    exact State.setReceiver_mapKept settled p _
  | bodyLengthAbove120 p length =>
    cases h
    split
    · exact State.setReceiver_mapKept settled p _
    · exact settled
  | replyComplete p =>
    cases h
    exact State.whenInService_mapKept settled (State.completeReply_mapKept settled p)
  | searchComplete =>
    cases h
    exact State.whenInService_mapKept settled (State.completeSearch_mapKept settled)
  | takeHead =>
    cases h
    exact State.whenInService_mapKept settled (State.takeHead_mapKept settled)
  | reportApplication =>
    cases h
    exact State.whenInService_mapKept settled (State.applyHead_mapKept settled)
  | pulseEnd m =>
    cases h
    exact State.whenInService_mapKept settled (State.endPulse_mapKept settled m)
  | minuteRollover | unitSilent i | doorOpenLong i | abandoned i | timedOut i | defrostNotBeforeZero i | cmdUnconfirmed i
  | checkTimeout i k | suppressionWindowExpiry m =>
    cases h
    exact State.takeDue_mapKept ok _
  | secondTick =>
    cases h
    exact State.secondTick_mapKept settled
  | restartAct strap =>
    cases h
    exact State.yardRestart_mapKept settled strap
  | supplyApplied =>
    cases h
    exact State.applySupply_mapKept settled
  | mfailAsserted =>
    cases h
    exact State.failMains_mapKept settled
  | mfailReleased strap =>
    cases h
    exact State.returnMains_mapKept settled strap
  | supplyLoss =>
    cases h
    exact cold_mapKept (strap := false) rfl

/-- Settles O57, by the command at the front of the queue. -/
theorem mapIsKept : Obligations.MapIsKept := by
  intro s t hmap hcache hsearches hstep
  have ok : s.mapKept := ⟨⟨hmap, hcache⟩, hsearches⟩
  have kept : t.mapKept := by
    unfold step at hstep
    split at hstep
    · cases hstep
      exact ok
    · next c rest _ => exact exec_mapKept (s := { s with pending := rest }) ok hstep
  exact ⟨kept.1.1, kept.1.2, kept.2⟩

end Sys2Proof.Machine
end

section
/-! # Requests, by what becomes of them -/

namespace Sys2Proof.Machine

open Sys2Proof

/-- A request that its owning block answers has its effect there, and its port begins the answer. -/
theorem exec_answered {m : Master} {req : Request} {s u : State} {reply : MasterReply} (h : s.ready m.port)
    (hrange : req.inRange) (hport : req.kind.allowedOn m.port)
    (taken : (s.received m.port).takeRequest m req = (u, some reply)) :
    exec (frameCommand m.port req.kind.code req.body) s = .next (u.answered m.port req.kind reply) := by
  rw [exec_request h hrange hport, taken]
  rfl

/-! ## Zones and bays -/

theorem State.zoneOccupied_iff (s : State) (z : Fin 8) :
    s.zoneOccupied z ↔ ∃ b : BayAddr, b.zone = z ∧ (s.bayAt b).occupant ≠ none := by
  simp only [State.zoneOccupied, zoneBays, List.any_map, List.any_eq_true, List.mem_finRange, true_and, Function.comp,
    Option.isSome_iff_ne_none]
  constructor
  · rintro ⟨b, hb⟩
    exact ⟨⟨z, b⟩, rfl, hb⟩
  · rintro ⟨⟨_, b⟩, rfl, hb⟩
    exact ⟨b, hb⟩

theorem TrailerRecord.shoreGrant_iff (r : TrailerRecord) : r.shoreGrant ↔ ∃ d, r.run = some d ∧ d.feeder ≠ none := by
  cases hr : r.run <;> simp [TrailerRecord.shoreGrant, hr, Option.isSome_iff_ne_none]

theorem State.zoneHasShoreGrant_iff (s : State) (z : Fin 8) :
    s.zoneHasShoreGrant z ↔
      ∃ i r d, s.record? i = some r ∧ r.bay.zone = z ∧ r.run = some d ∧ d.feeder ≠ none := by
  simp only [State.zoneHasShoreGrant, allRecords, List.any_eq_true, List.mem_finRange, true_and, Option.any_eq_true,
    Bool.and_eq_true, decide_eq_true_eq, TrailerRecord.shoreGrant_iff]
  constructor
  · rintro ⟨i, r, hr, hz, d, hd⟩
    exact ⟨i, r, d, hr, hz, hd⟩
  · rintro ⟨i, r, d, hr, hz, hd⟩
    exact ⟨i, r, hr, hz, d, hd⟩

/-- ZONE_SET, by its two BUSY tests. -/
theorem State.doZoneSet_eq (z : Fin 8) (e : Zone) (s : State) :
    s.doZoneSet z e =
      if (s.zones[z].isOpen ∧ ¬ e.isOpen ∧ s.zoneOccupied z) ∨ (e.feeder ≠ s.zones[z].feeder ∧ s.zoneHasShoreGrant z) then
        (s, .busy)
      else ({ s with zones := s.zones.set z e }, .done .nothing) := by
  unfold State.doZoneSet
  by_cases h1 : s.zones[z].isOpen ∧ ¬ e.isOpen ∧ s.zoneOccupied z
  · rw [if_pos h1, if_pos (Or.inl h1)]
  · by_cases h2 : e.feeder ≠ s.zones[z].feeder ∧ s.zoneHasShoreGrant z
    · rw [if_neg h1, if_pos h2, if_pos (Or.inr h2)]
    · rw [if_neg h1, if_neg h2, if_neg (not_or.mpr ⟨h1, h2⟩)]

/-- Settles O12: the two BUSY tests of ZONE_SET as R2 has them, and BAY_SET as R5 has it. -/
theorem mapEntriesAreWritten : Obligations.MapEntriesAreWritten := by
  refine ⟨fun z e s busy h he hbusy => ?_, fun b rights locked s h => ?_⟩
  · have tests : busy ↔ ((s.received .ofc).zones[z].isOpen ∧ ¬ e.isOpen ∧ (s.received .ofc).zoneOccupied z) ∨
        (e.feeder ≠ (s.received .ofc).zones[z].feeder ∧ (s.received .ofc).zoneHasShoreGrant z) := by
      rw [hbusy, State.zoneOccupied_iff, State.zoneHasShoreGrant_iff]
      rfl
    have outcome := (s.received .ofc).doZoneSet_eq z e
    refine ⟨fun yes => ?_, fun no => ?_⟩
    · rw [if_pos (tests.mp yes)] at outcome
      exact exec_answered (m := .ofc) (req := .zoneSet z e) h he rfl (congrArg (fun r => (r.1, some r.2)) outcome)
    · rw [if_neg fun t => no (tests.mpr t)] at outcome
      exact exec_answered (m := .ofc) (req := .zoneSet z e) h he rfl (congrArg (fun r => (r.1, some r.2)) outcome)
  · exact exec_answered (m := .ofc) (req := .baySet b rights locked) h rfl rfl rfl

/-! ## Readouts -/

/-- Settles O13: each readout is one equation of its owning block. -/
theorem readoutsGiveWhatStands : Obligations.ReadoutsGiveWhatStands := by
  refine ⟨fun z p k s h => ⟨?_, ?_, ?_, ?_⟩, fun m choice start s h => ⟨fun hm hs => ?_, fun hm hs => ?_, fun hm hs => ?_⟩,
    fun start s found h hfound => ?_⟩
  · exact exec_answered (m := .ofc) (req := .zoneGet z) h rfl rfl rfl
  · exact exec_answered (m := .ofc) (req := .planGet p) h rfl rfl rfl
  · exact exec_answered (m := .ofc) (req := .linkGet k) h rfl rfl rfl
  · exact exec_answered (m := .ofc) (req := .clockGet) h rfl rfl rfl
  · have port : Kind.queueGet.allowedOn m.port := by
      cases m <;> first | rfl | exact absurd rfl hm
    exact exec_answered (req := .queueGet start) h (decide_eq_true hs) port rfl
  · have port : Kind.feederGet.allowedOn m.port := by
      cases m <;> first | rfl | exact absurd rfl hm
    exact exec_answered (req := .feederGet choice start) h (decide_eq_true hs) port rfl
  · subst hm
    exact exec_answered (m := .ofc) (req := .checkList start) h (decide_eq_true hs) rfl rfl
  · subst hfound
    exact exec_answered (m := .ofc) (req := .scanChanged start) h rfl rfl rfl

/-! ## SWEEP_SEEN and FLUSH_TAGS -/

/-- Settles O19: a sweep maps the records, and a flush leaves no entry for a lookup to hit. -/
theorem sweepAndFlushClear : Obligations.SweepAndFlushClear := by
  refine ⟨fun s h => ?_, fun s h => ?_⟩
  · refine ⟨(s.received .ofc).doSweepSeen.1, exec_answered (m := .ofc) (req := .sweepSeen) h rfl rfl rfl, rfl, fun i => ?_⟩
    simp [State.doSweepSeen, State.record?]
  · refine ⟨(s.received .ofc).doFlushTags.1, exec_answered (m := .ofc) (req := .flushTags) h rfl rfl rfl, rfl, fun k => ?_,
      fun t => ?_⟩
    · simp [State.doFlushTags, CacheSet.cold]
    · refine State.cacheHit_eq_none.mpr (CacheSet.wayOf_eq_none_iff.mpr fun w e he => ?_)
      simp [State.doFlushTags, CacheSet.cold] at he

/-! ## The cold start -/

/-- Settles O51: every field of `State.cold`. -/
theorem coldStartValues : Obligations.ColdStartValues := by
  intro strap s hsupply hcold hdue
  have start : exec (.mfailReleased strap) s = .next (s.coldStart strap) := by
    show Host.Outcome.next (s.settle.returnMains strap) = _
    rw [State.settle_of_nothing_due hdue, State.returnMains, hsupply]
    simp only [hcold, if_true]
  refine ⟨_, start, rfl, rfl, rfl, rfl, rfl, rfl, fun i => ?_, fun b => ?_, fun z => ?_, fun p => ?_, fun k => ?_, rfl, rfl, rfl,
    rfl, rfl, rfl, rfl, rfl, rfl, rfl, rfl, rfl, rfl, rfl, rfl, rfl, rfl, fun f => ?_, rfl, rfl, rfl, rfl, rfl, rfl, rfl, rfl,
    rfl, fun p => ?_, fun m => ?_, rfl⟩
  · simp [State.coldStart, State.cold, State.record?]
  · simp [State.coldStart, State.cold, State.bayAt, BayEntry.cold, Rights.all]
  · simp [State.coldStart, State.cold, Zone.cold, Rights.all]
  · simp [State.coldStart, State.cold, Plan.cold]
  · simp [State.coldStart, State.cold, CacheSet.cold]
  · simp [State.coldStart, State.cold, Feeder.cold]
  · cases p <;> rfl
  · cases m <;> rfl

end Sys2Proof.Machine
end

section
/-! # Requests on a trailer that resolves at once -/

namespace Sys2Proof.Machine

open Sys2Proof

/-! ## Resolution -/

/-- A subject that resolves at once leaves the part as it is, but for the Tag Cache. -/
theorem State.resolvesTo_frame {s s' : State} {m : Master} {n : Subject} {res : Resolved} (h : s.resolvesTo m n s' res) :
    ∃ c, s' = { s with cache := c } := by
  cases n with
  | bay b => exact ⟨s.cache, h.1⟩
  | tag t =>
    have look : s.lookup (.master m) t = (s', .found res) := h
    rcases s.lookup_cases (.master m) t with ⟨-, e⟩ | ⟨-, way, x, -, e⟩ | ⟨-, -, e⟩ <;> rw [e] at look <;> cases look
    exact ⟨_, rfl⟩

/-- The zero tag resolves to nothing. -/
theorem State.tag_ne_zero_of_resolvesTo {s s' : State} {m : Master} {t : Tag} {res : Resolved}
    (h : s.resolvesTo m (.tag t) s' res) : t ≠ 0 := by
  have look : s.lookup (.master m) t = (s', .found res) := h
  rintro rfl
  rw [State.lookup, if_pos rfl] at look
  cases look

/-- A request whose trailer resolves at once is judged on it. -/
theorem State.takeRequest_resolved {s s' : State} {m : Master} {req : Request} {n : Subject} {res : Resolved}
    (hname : req.name = some n) (h : s.resolvesTo m n s' res) :
    s.takeRequest m req = ((s'.judge m req n res).1, some (s'.judge m req n res).2) := by
  unfold State.takeRequest
  split
  · cases hname
  · cases hname
  · next hplace =>
    rw [hname]
    cases n with
    | bay b =>
      obtain ⟨rfl, hres⟩ := h
      simp only [hres]
    | tag t =>
      have look : s.lookup (.master m) t = (s', .found res) := h
      simp only [State.lookupFor, look, State.goOn, hname]

/-- A request whose trailer resolves at once, on a ready port, has the effect and the answer of its judgement. -/
theorem exec_resolved {m : Master} {req : Request} {n : Subject} {s s' u : State} {res : Resolved} {reply : MasterReply}
    (h : s.ready m.port) (hrange : req.inRange) (hport : req.kind.allowedOn m.port) (hname : req.name = some n)
    (hres : (s.received m.port).resolvesTo m n s' res) (judged : s'.judge m req n res = (u, reply)) :
    exec (frameCommand m.port req.kind.code req.body) s = .next (u.answered m.port req.kind reply) := by
  refine exec_answered h hrange hport ?_
  rw [State.takeRequest_resolved hname hres, judged]

/-! ## Judgement -/

/-- A request with the right it needs, on bays whose lock does not refuse it, goes to its owning block. -/
theorem State.judge_passes {s : State} {m : Master} {req : Request} {n : Subject} {res : Resolved}
    (hright : ∀ right, req.rightNeeded m = some right → res.rights.has right = true)
    (hlock : s.lockRefuses m req res = false) : s.judge m req n res = s.actOn m req res := by
  have right : (req.rightNeeded m).filter (fun right => !res.rights.has right) = none := by
    cases hr : req.rightNeeded m with
    | none => rfl
    | some right => simp [hright right hr]
  simp [State.judge, right, hlock]

/-- A request of CAB or PAT without the right it needs is refused RIGHTS, with its event. -/
theorem State.judge_rights {s : State} {m : Master} {req : Request} {n : Subject} {res : Resolved} {right : Right}
    (hneed : req.rightNeeded m = some right) (hlacks : res.rights.has right = false) (cause : Cause)
    (hcause : cause = ⟨s.refusalLevel res right, req.access, res.path, n⟩) :
    s.judge m req n res = (s.raiseFor res.record (.rightsRefusal m cause), .rights cause) := by
  subst hcause
  simp [State.judge, hneed, Option.filter, hlacks]

/-- A request of OFC that a lock refuses does nothing. -/
theorem State.judge_locked {s : State} {req : Request} {n : Subject} {res : Resolved}
    (hlock : s.lockRefuses .ofc req res = true) :
    s.judge .ofc req n res = (s, .rights { level := .bay, access := .act, path := res.path, name := n }) := by
  simp [State.judge, Request.rightNeeded, hlock]

/-- A request of OFC that no lock refuses goes to its owning block. -/
theorem State.judge_ofc {s : State} {req : Request} {n : Subject} {res : Resolved}
    (hlock : s.lockRefuses .ofc req res = false) : s.judge .ofc req n res = s.actOn .ofc req res :=
  State.judge_passes (fun _ h => by cases h) hlock

theorem State.subjectOf_of_some {s : State} {i : RecIdx} {r : TrailerRecord} (h : s.record? i = some r) :
    s.subjectOf i = .trailer r.tag r.bay i := by
  rw [State.subjectOf, h]

/-! ## RECORD_GET, COLLECT and RECORD_EDIT -/

/-- An edit marks its record changed exactly where a field takes a new value or presence. -/
theorem TrailerRecord.marking_edit (r : TrailerRecord) (load override : Option Nat) :
    r.marking { r with heaterLoad := load, thresholdOverride := override } =
      { r with heaterLoad := load, thresholdOverride := override,
               changed := r.changed || (r.heaterLoad ≠ load || r.thresholdOverride ≠ override) } := by
  have same : { r with heaterLoad := load, thresholdOverride := override }.tracked = r.tracked ↔
      r.heaterLoad = load ∧ r.thresholdOverride = override := by
    simp only [TrailerRecord.tracked, TrailerRecord.mk.injEq, true_and, and_true]
    exact and_congr eq_comm eq_comm
  unfold TrailerRecord.marking
  by_cases h : r.heaterLoad = load ∧ r.thresholdOverride = override
  · rw [if_pos (same.mpr h)]
    simp [h.1, h.2]
  · rw [if_neg (mt same.mp h)]
    have differ : (decide (r.heaterLoad ≠ load) || decide (r.thresholdOverride ≠ override)) = true := by
      rw [Bool.or_eq_true, decide_eq_true_eq, decide_eq_true_eq]
      exact not_and_or.mp h
    rw [differ, Bool.or_true]

/-- Settles O15: each request through its judgement on a trailer that resolves at once. -/
theorem recordIsReadOutAndEdited : Obligations.RecordIsReadOutAndEdited := by
  refine ⟨fun n s s' res r hn hr => ⟨fun h hres => ?_, fun h hres => ?_, fun h hres => ?_⟩,
    fun n load override s s' res r h hrange hres hr => ?_⟩
  · refine exec_resolved (m := .ofc) (req := .recordGet n) h hn rfl rfl hres ?_
    rw [State.judge_ofc rfl]
    simp [State.actOn, State.doRecordGet, hr]
  · refine exec_resolved (m := .pat) (req := .recordGet n) h hn rfl rfl hres ?_
    rw [State.judge_passes (fun _ h => by cases h) rfl]
    simp [State.actOn, State.doRecordGet, hr]
  · refine exec_resolved (m := .ofc) (req := .collect n) h hn rfl rfl hres ?_
    rw [State.judge_ofc rfl]
    simp [State.actOn, State.doCollect, hr]
  · have taken := fun u reply => exec_resolved (m := .ofc) (req := .recordEdit n load override) (u := u) (reply := reply)
      h hrange rfl rfl hres
    by_cases hlock : s'.settings.strict ∧ (s'.bayAt res.bay).locked
    · rw [if_pos hlock]
      exact taken _ _ (State.judge_locked (by simp [State.lockRefuses, hlock]))
    · rw [if_neg hlock]
      have free : s'.lockRefuses .ofc (.recordEdit n load override) res = false := by
        rw [← Bool.not_eq_true]
        simpa [State.lockRefuses] using hlock
      have act : s'.judge .ofc (.recordEdit n load override) n res = s'.doRecordEdit res.record load override :=
        State.judge_ofc free
      by_cases hdefrost : r.holds .defrost
      · rw [if_pos hdefrost]
        exact taken _ _ (act.trans (by simp [State.doRecordEdit, hr, hdefrost]))
      · rw [if_neg hdefrost]
        refine taken _ _ (act.trans ?_)
        simp only [State.doRecordEdit, hr, hdefrost, State.updRecord_of_some hr, TrailerRecord.marking_edit]
        rfl

/-! ## MOVE -/

/-- A change of bay marks its record changed. -/
theorem TrailerRecord.marking_move {r : TrailerRecord} {b : BayAddr} (h : r.bay ≠ b) :
    r.marking { r with bay := b } = { r with bay := b, changed := true } := by
  unfold TrailerRecord.marking
  rw [if_neg]
  intro same
  exact h (congrArg TrailerRecord.bay same).symm

/-- MOVE past its tests (R16). -/
theorem State.doMove_of_free {s : State} {i : RecIdx} {r : TrailerRecord} {b : BayAddr} (hr : s.record? i = some r)
    (hopen : s.zones[b.zone].isOpen = true) (hempty : (s.bayAt b).occupant = none)
    (hfeeder : ∀ d f, r.run = some d → d.feeder = some f → f = s.zones[b.zone].feeder) (t : Tag) :
    s.doMove i t b = (s.moved i r t b, .done .nothing) := by
  have feeder : ¬ (r.run.bind RunData.feeder).any (fun f => f ≠ s.zones[b.zone].feeder) = true := by
    rw [Option.any_eq_true]
    rintro ⟨f, hf, hne⟩
    obtain ⟨d, hd, hdf⟩ := Option.bind_eq_some_iff.mp hf
    exact of_decide_eq_true hne (hfeeder d f hd hdf)
  rw [State.doMove, hr]
  simp only
  rw [if_neg (not_not.mpr hopen), if_neg (by simp [hempty]), if_neg feeder, State.updRecord_of_some (r := r) (by simpa using hr)]
  rfl

/-- Settles O17: a MOVE no lock refuses passes the tests of R16, and a locked one is refused before them. -/
theorem moveMoves : Obligations.MoveMoves := by
  intro t b s s' res r h hres hr
  have hrange : (Request.move t b).inRange := decide_eq_true (State.tag_ne_zero_of_resolvesTo hres)
  have taken := fun u reply => exec_resolved (m := .ofc) (req := .move t b) (u := u) (reply := reply) h hrange rfl rfl hres
  obtain ⟨c, rfl⟩ := State.resolvesTo_frame hres
  refine ⟨fun hbay hlock hopen hempty hfeeder => taken _ _ ?_, fun hstrict hlocked => taken _ _ ?_⟩
  · have free : State.lockRefuses { s.received .ofc with cache := c } .ofc (.move t b) res = false := by
      show (s.settings.strict && ((s.bayAt res.bay).locked || (s.bayAt b).locked)) = false
      rcases hlock with hlock | ⟨hfrom, hto⟩
      · rw [hlock, Bool.false_and]
      · rw [hfrom, hto, Bool.or_false, Bool.and_false]
    refine (State.judge_ofc free).trans ((State.doMove_of_free hr hopen hempty hfeeder t).trans ?_)
    rw [State.moved, TrailerRecord.marking_move hbay, State.bayAt_setBay, if_neg hbay]
    rfl
  · refine State.judge_locked ?_
    show (s.settings.strict && ((s.bayAt res.bay).locked || (s.bayAt b).locked)) = true
    rw [hstrict, Bool.true_and, Bool.or_eq_true]
    exact hlocked

/-! ## RELEASE -/

/-- The records after a release's slot is emptied and the record freed. -/
theorem State.forgetCommands_records (s : State) (i : RecIdx) :
    (s.forgetCommands i).records.set i none = s.records.set i none := by
  show (s.updRecord i _).records.set i none = _
  unfold State.updRecord
  split
  · rfl
  · simp [State.setRecord]

theorem State.forgetCommands_frame (s : State) (i : RecIdx) :
    s.forgetCommands i = { s with records := (s.forgetCommands i).records
                                  downlink := s.downlink.filter fun j => j ≠ i } := by
  unfold State.forgetCommands State.updRecord
  split <;> rfl

/-- What is left of a part of which a trailer has been released, past the scheduler's part (R17). -/
theorem State.freed_spec (e : State) (i : RecIdx) (b : BayAddr) (t : Tag) :
    ∃ u : State, (((e.forgetCommands i).forgetChecks t).freed i b t) = u ∧
      u.records = e.records.set i none ∧ u.bayAt b = { e.bayAt b with occupant := none } ∧
      u.checks = e.checks.filter (fun it => it.tag ≠ t) ∧ u.downlink = e.downlink.filter (fun j => j ≠ i) ∧
      (∀ c, c ≠ b → u.bayAt c = e.bayAt c) ∧ u.cache[tagSet t] = e.cache[tagSet t].invalidate t ∧
      (∀ k, k ≠ tagSet t → u.cache[k] = e.cache[k]) ∧
      u = { e with records := u.records, bays := u.bays, checks := u.checks, downlink := u.downlink, cache := u.cache } := by
  have records := e.forgetCommands_records i
  rw [e.forgetCommands_frame i] at records ⊢
  generalize (e.forgetCommands i).records = v at records
  refine ⟨_, rfl, records, ?_, rfl, rfl, fun c hc => ?_, ?_, fun k hk => ?_, rfl⟩
  · exact State.bayAt_setBay_self _ b _
  · exact (State.bayAt_setBay _ b c _).trans (if_neg (Ne.symm hc))
  · exact State.cache_setCacheSet_self _ (tagSet t) _
  · exact State.cache_setCacheSet_ne _ _ (Ne.symm hk)

/-- Settles O18: what the scheduler leaves of the part (the queue less the entry, or the ended defrost and its grant pass), with
the record then freed from it. -/
theorem releaseFrees : Obligations.ReleaseFrees := by
  intro t s s' res r h hres hr
  have hrange : (Request.release t).inRange := decide_eq_true (State.tag_ne_zero_of_resolvesTo hres)
  have taken := fun u reply => exec_resolved (m := .ofc) (req := .release t) (u := u) (reply := reply) h hrange rfl rfl hres
  obtain ⟨c, hs'⟩ := State.resolvesTo_frame hres
  have lock : s'.lockRefuses .ofc (.release t) res = (s.settings.strict && (s.bayAt res.bay).locked) := by
    rw [hs']
    rfl
  have free : s.settings.strict = false ∨ (s.bayAt res.bay).locked = false →
      s'.judge .ofc (.release t) (.tag t) res =
        ((((s'.releaseDefrost res.record).forgetCommands res.record).forgetChecks t).freed res.record r.bay t,
          .done .nothing) := by
    intro hfree
    refine (State.judge_ofc (lock.trans ?_)).trans (State.doRelease_of_some hr t)
    rcases hfree with hfree | hfree <;> simp [hfree]
  refine ⟨fun hfree hrun => ?_, fun d e hfree hrun he => ?_, fun hstrict hlocked => ?_⟩
  · have scheduler : s'.releaseDefrost res.record = s'.leaveQueue res.record := by
      simp [State.releaseDefrost, hr, hrun]
    obtain ⟨u, hu, records, bay, checks, downlink, bays, set, sets, frame⟩ :=
      (s'.leaveQueue res.record).freed_spec res.record r.bay t
    have judged := free hfree
    rw [scheduler, hu] at judged
    have queue : u.queue = s.queue.filter (fun e => e.record ≠ res.record) := by
      rw [frame, hs']
      rfl
    have nextJoin : u.nextJoin = if u.queue = [] then 1 else s.nextJoin := by
      rw [queue, frame, hs']
      simp only [State.leaveQueue, withoutRecord, List.isEmpty_iff]
      rfl
    subst hs'
    refine ⟨u, taken _ _ judged, records, bay, checks, downlink, queue, ?_, ?_, bays, set, sets, nextJoin, ?_⟩
    · rw [frame]
      rfl
    · rw [frame]
      rfl
    · have sameQueue := congrArg State.queue frame
      have sameJoin := congrArg State.nextJoin frame
      simp only at sameQueue sameJoin
      rw [sameQueue, sameJoin]
      exact frame
  · have scheduler : s'.releaseDefrost res.record = e := by
      simp [State.releaseDefrost, hr, hrun, he]
    obtain ⟨u, hu, records, bay, checks, downlink, bays, set, sets, frame⟩ := e.freed_spec res.record r.bay t
    have judged := free hfree
    rw [scheduler, hu] at judged
    exact ⟨u, taken _ _ judged, records, bay, checks, downlink, bays, set, sets, frame⟩
  · exact taken _ _ (State.judge_locked (lock.trans (by simp [hstrict, hlocked])))

end Sys2Proof.Machine
end

section
/-! # HOLD_SET, HOLD_CLEAR and REVOKE, and the RIGHTS refusals -/

namespace Sys2Proof.Machine

open Sys2Proof

/-! ## The chains of the records -/

/-- The activity chain of a record, where it is placed. -/
def State.chain? (s : State) (i : RecIdx) : Option (List ChainEntry) := (s.record? i).map TrailerRecord.chain

theorem TrailerRecord.marking_chain (old new : TrailerRecord) : (old.marking new).chain = new.chain := by
  unfold TrailerRecord.marking
  split <;> rfl

/-- The chain of a record after a change of it is the changed one. -/
theorem State.updRecord_chain {s : State} {i : RecIdx} {r : TrailerRecord} (hr : s.record? i = some r)
    (f : TrailerRecord → TrailerRecord) : (s.updRecord i f).chain? i = some (f r).chain := by
  rw [State.updRecord_of_some hr, State.chain?, State.record?_setRecord_self, Option.map_some, TrailerRecord.marking_chain]

/-- A change of a record that keeps its chain keeps every chain there. -/
theorem State.updRecord_keeps_chain {s : State} {i : RecIdx} {f : TrailerRecord → TrailerRecord}
    (hf : ∀ r, (f r).chain = r.chain) : (s.updRecord i f).chain? i = s.chain? i := by
  cases hr : s.record? i with
  | none => rw [State.updRecord, hr]
  | some r => rw [State.updRecord_chain hr, hf, State.chain?, hr, Option.map_some]

/-- A hand-off keeps the chain of its record. -/
theorem State.handOff_chain (i : RecIdx) (w : Command) (s : State) : (s.handOff i w).chain? i = s.chain? i := by
  unfold State.handOff
  split
  · rfl
  · split
    · rfl
    · split
      · exact State.updRecord_keeps_chain (f := fun r => { r with slot := .queued w }) fun _ => rfl
      · exact State.updRecord_keeps_chain fun _ => rfl
      · split
        · rfl
        · exact State.updRecord_keeps_chain fun _ => rfl
      · split <;> exact State.updRecord_keeps_chain fun _ => rfl

/-- The removal of an activity that a chain holds leaves the chain's other entries. -/
theorem State.removeActivity_chain {s : State} {i : RecIdx} {r : TrailerRecord} {k : Activity} (hr : s.record? i = some r)
    (hk : r.holds k = true) : (s.removeActivity i k).chain? i = some (r.chain.filter fun e => e.kind ≠ k) := by
  rw [State.removeActivity, hr]
  simp only
  rw [if_pos hk]
  split
  · rw [State.handOff_chain]
    exact State.updRecord_chain hr _
  · exact State.updRecord_chain hr _

/-- A placed record is back at [COOL] exactly where its chain's kinds are so. -/
theorem State.atBase_of_chain {s : State} {i : RecIdx} {chain : List ChainEntry} (h : s.chain? i = some chain) :
    (s.record? i).any TrailerRecord.atBase = decide (chain.map ChainEntry.kind = [.cool]) := by
  obtain ⟨r, hr, rfl⟩ := Option.map_eq_some_iff.mp h
  rw [hr]
  rfl

/-! ## HOLD_SET and HOLD_CLEAR -/

/-- HOLD_CLEAR of a chain that holds SERVICE_HOLD (R81, R84). -/
theorem State.doHoldClear_of_holds {s : State} {i : RecIdx} {r : TrailerRecord} (hr : s.record? i = some r)
    (hk : r.holds .serviceHold = true) :
    s.doHoldClear i =
      (if (r.chain.filter fun e => e.kind ≠ .serviceHold).map ChainEntry.kind = [.cool]
       then ((s.removeActivity i .serviceHold).evaluateDemand i).grantPass else s.removeActivity i .serviceHold,
       .done .nothing) := by
  rw [State.doHoldClear]
  simp only [State.atBase_of_chain (State.removeActivity_chain hr hk), decide_eq_true_eq]
  rfl

/-- OFC needs no right for a hold, and PAT the HOLD right. -/
theorem Request.hold_right {m : Master} {req : Request} {rights : Rights} (hkind : req.kind = .holdSet ∨ req.kind = .holdClear)
    (hm : m = .ofc ∨ (m = .pat ∧ rights.hold = true)) :
    ∀ right, req.rightNeeded m = some right → rights.has right = true := by
  intro right hright
  rcases hm with rfl | ⟨rfl, hold⟩
  · cases hright
  · rcases hkind with hkind | hkind <;> simp only [Request.rightNeeded, hkind, Option.some.injEq] at hright <;>
      exact hright ▸ hold

/-- The holds are allowed to OFC and PAT. -/
theorem Master.hold_allowed {m : Master} {p : Prop} (hm : m = .ofc ∨ (m = .pat ∧ p)) :
    Kind.holdSet.allowedOn m.port ∧ Kind.holdClear.allowedOn m.port := by
  rcases hm with rfl | ⟨rfl, -⟩ <;> decide

/-- A lock refuses nothing but RECORD_EDIT, RELEASE and MOVE. -/
theorem State.lockRefuses_hold (s : State) (m : Master) (n : Subject) (res : Resolved) :
    s.lockRefuses m (.holdSet n) res = false ∧ s.lockRefuses m (.holdClear n) res = false := by
  cases m <;> exact ⟨rfl, rfl⟩

/-- HOLD_SET with its right (R80). -/
theorem exec_holdSet {m : Master} {n : Subject} {s s' : State} {res : Resolved} {r : TrailerRecord} (h : s.ready m.port)
    (hm : m = .ofc ∨ (m = .pat ∧ res.rights.hold = true)) (hn : n.inRange) (hres : (s.received m.port).resolvesTo m n s' res)
    (hr : s'.record? res.record = some r) :
    exec (.holdSet m.port (Request.holdSet n).body) s =
      if r.holds .serviceHold then .next (s'.answered m.port .holdSet .busy)
      else .next ((s'.pushActivity res.record .serviceHold (some m)).answered m.port .holdSet (.done .nothing)) := by
  have judged : s'.judge m (.holdSet n) n res = s'.doHoldSet m res.record :=
    State.judge_passes (Request.hold_right (.inl rfl) hm) (s'.lockRefuses_hold m n res).1
  have taken := fun u reply =>
    exec_resolved (req := .holdSet n) (u := u) (reply := reply) h hn (Master.hold_allowed hm).1 rfl hres
  rw [State.doHoldSet, hr, Option.any_some] at judged
  split at judged
  · next hk =>
    rw [if_pos hk]
    exact taken _ _ judged
  · next hk =>
    rw [if_neg hk]
    exact taken _ _ judged

/-- A HOLD_CLEAR with its right is judged on whether its chain holds SERVICE_HOLD (R81). -/
theorem State.judge_holdClear {m : Master} {n : Subject} {s : State} {res : Resolved} {r : TrailerRecord}
    (hm : m = .ofc ∨ (m = .pat ∧ res.rights.hold = true)) (hr : s.record? res.record = some r) :
    s.judge m (.holdClear n) n res =
      if r.holds .serviceHold then s.doHoldClear res.record
      else (s, .notPresent { level := .record, access := .act, path := res.path, name := n }) := by
  rw [State.judge_passes (Request.hold_right (.inr rfl) hm) (s.lockRefuses_hold m n res).2]
  simp only [State.actOn, hr, Option.any_some]

/-! ## Refusals -/

/-- The five requests of PAT that need a right on their trailer: each names the trailer, is an act, and is allowed on PAT. -/
theorem Request.right_of_pat {req : Request} {right : Right} {n : Subject}
    (h : ((req, right) ∈ [(.holdSet n, .hold), (.holdClear n, .hold), (.defrostRequest n, .defrost)]) ∨
      (∃ level refuelled, req = .fuelPost n level refuelled ∧ right = .check) ∨
      ∃ t result, n = .tag t ∧ req = .checkClose t result ∧ right = .check) :
    req.name = some n ∧ req.rightNeeded .pat = some right ∧ req.access = .act ∧ req.kind.allowedOn Master.pat.port := by
  rcases h with h | ⟨level, refuelled, rfl, rfl⟩ | ⟨t, result, rfl, rfl, rfl⟩
  · simp only [List.mem_cons, Prod.mk.injEq, List.not_mem_nil, or_false] at h
    rcases h with ⟨rfl, rfl⟩ | ⟨rfl, rfl⟩ | ⟨rfl, rfl⟩ <;> exact ⟨rfl, rfl, rfl, rfl⟩
  · exact ⟨rfl, rfl, rfl, rfl⟩
  · exact ⟨rfl, rfl, rfl, rfl⟩

/-- A request that lacks its right on a trailer that resolves at once is refused RIGHTS with its cause record, raises
RIGHTS_REFUSAL with the same, and has no other effect (R11, R12). -/
theorem exec_rights {m : Master} {req : Request} {right : Right} {n : Subject} {cause : Cause} {s s' : State} {res : Resolved}
    {r : TrailerRecord} (h : s.ready m.port) (hrange : req.inRange) (hport : req.kind.allowedOn m.port)
    (hname : req.name = some n) (hneed : req.rightNeeded m = some right) (hact : req.access = .act)
    (hres : (s.received m.port).resolvesTo m n s' res) (hr : s'.record? res.record = some r)
    (hlacks : res.rights.has right = false)
    (hcause : cause = ⟨s.refusalLevel res right, .act, res.path, n⟩) :
    exec (frameCommand m.port req.kind.code req.body) s =
      .next ((s'.raise ⟨.trailer r.tag r.bay res.record, .rightsRefusal m cause⟩).answered m.port req.kind (.rights cause)) := by
  obtain ⟨c, hs'⟩ := State.resolvesTo_frame hres
  have level : s'.refusalLevel res right = s.refusalLevel res right := by
    rw [hs']
    rfl
  refine exec_resolved h hrange hport hname hres ?_
  rw [State.judge_rights hneed hlacks cause (by rw [hcause, level, hact]), State.raiseFor, State.subjectOf_of_some hr]

/-- Settles O31: the holds through their judgement on a trailer that resolves at once, and the refusals of PAT's five requests
as one refusal. -/
theorem holdIsSetAndCleared : Obligations.HoldIsSetAndCleared := by
  refine ⟨fun m n s s' res r h hm hn hres hr => exec_holdSet h hm hn hres hr,
    fun m n s s' res r h hm hn hres hr => ?_, fun req right n cause s s' res r hreq h hrange hres hr hlacks hcause => ?_⟩
  · have judged := State.judge_holdClear (n := n) hm hr
    have taken := fun u reply =>
      exec_resolved (req := .holdClear n) (u := u) (reply := reply) h hn (Master.hold_allowed hm).2 rfl hres
    refine ⟨fun hk => taken _ _ ?_, fun hk hchain => taken _ _ ?_, fun hk hchain => taken _ _ ?_⟩
    · rw [judged, hk, if_neg Bool.false_ne_true]
    · rw [judged, if_pos hk, State.doHoldClear_of_holds hr hk, if_neg hchain]
    · rw [judged, if_pos hk, State.doHoldClear_of_holds hr hk, if_pos hchain]
  · obtain ⟨hname, hneed, hact, hport⟩ := Request.right_of_pat hreq
    exact exec_rights h hrange hport hname hneed hact hres hr hlacks hcause

/-! ## REVOKE -/

/-- A REVOKE with its right is judged on whether its trailer has a defrost (R112). -/
theorem State.judge_revoke {n : Subject} {deferral : Nat} {s : State} {res : Resolved} {r : TrailerRecord}
    (hright : res.rights.defrost = true) (hr : s.record? res.record = some r) :
    s.judge .cab (.revoke n deferral) n res =
      if r.run.isSome then ((s.endDefrost res.record (.revoked .revoke (some (deferral * 60)))).grantPass, .done .nothing)
      else (s, .notPresent { level := .record, access := .act, path := res.path, name := n }) := by
  rw [State.judge_passes (fun _ h => by cases h; exact hright) rfl]
  simp only [State.actOn, hr, Option.any_some]
  rfl

/-- Settles O38: a REVOKE through its judgement on a trailer that resolves at once. -/
theorem revokeEnds : Obligations.RevokeEnds := by
  intro n deferral s s' res r h hn hdeferral hres hr
  have hrange : (Request.revoke n deferral).inRange := by
    simp [Request.inRange, hn, hdeferral]
  have taken := fun u reply =>
    exec_resolved (m := .cab) (req := .revoke n deferral) (u := u) (reply := reply) h hrange rfl rfl hres
  refine ⟨fun hright hrun => taken _ _ ?_, fun hright hrun => taken _ _ ?_, fun hlacks =>
    ⟨_, exec_rights (m := .cab) (req := .revoke n deferral) h hrange rfl rfl rfl rfl hres hr hlacks rfl, rfl, rfl, rfl,
      fun hpath => ?_, fun hpath => ?_⟩⟩
  · rw [State.judge_revoke hright hr, if_pos hrun]
  · rw [State.judge_revoke hright hr, hrun]
    rfl
  · simp only [State.refusalLevel, hpath]
  · simp only [State.refusalLevel, hpath]
    rfl

end Sys2Proof.Machine
end

section
/-! # Resolution of subjects -/

namespace Sys2Proof.Machine

open Sys2Proof

/-- What a search of `Fin n` in rising order finds is the lowest. -/
theorem find?_finRange_lowest {n : Nat} {p : Fin n → Bool} {i j : Fin n} (h : (List.finRange n).find? p = some i)
    (hj : p j = true) : i ≤ j := by
  obtain ⟨-, before, after, split, none⟩ := List.find?_eq_some_iff_append.mp h
  have sorted := List.pairwise_lt_finRange n
  have mem := List.mem_finRange j
  rw [split] at sorted mem
  rcases List.mem_append.mp mem with mem | mem
  · have absent := none j mem
    rw [hj] at absent
    cases absent
  · rcases List.mem_cons.mp mem with rfl | mem
    · exact le_rfl
    · exact le_of_lt ((List.pairwise_cons.mp (List.pairwise_append.mp sorted).2.1).1 j mem)

/-! ## Fills and invalidations -/

/-- A fill's entry is found by its tag, in the way the fill takes. -/
theorem CacheSet.fill_wayOf (c : CacheSet) (e : CacheEntry) : (c.fill e).wayOf e.tag = some (c.wayToFill e.tag) := by
  cases h : c.wayOf e.tag with
  | none =>
    refine CacheSet.wayOf_eq_some ((c.fill_ways e _).trans (if_pos rfl)) rfl fun v x hx ht => ?_
    rw [CacheSet.fill_ways] at hx
    split at hx
    · next hv => exact hv.symm
    · exact absurd ht (CacheSet.wayOf_eq_none_iff.mp h v x hx)
  | some w =>
    have taken : c.wayToFill e.tag = w := by rw [CacheSet.wayToFill, h]
    have same : (c.fill e).wayOf e.tag = c.wayOf e.tag := by
      unfold CacheSet.wayOf
      congr 1
      funext v
      rw [CacheSet.fill_ways, taken]
      split
      · next hv =>
        obtain ⟨x, hx, hxt⟩ := CacheSet.ways_of_wayOf h
        rw [← hv, hx]
        simp [hxt]
      · rfl
    rw [same, h, taken]

/-- A tag that its set does not hold fills the lowest invalid way (R26). -/
theorem CacheSet.wayToFill_invalid {c : CacheSet} {t : Tag} (miss : c.wayOf t = none) {v : Fin 4} (hv : c.ways[v] = none) :
    c.ways[c.wayToFill t] = none ∧ c.wayToFill t ≤ v := by
  have invalid : (fun w : Fin 4 => (c.ways[w]).isNone) v = true := by simp [hv]
  cases h : allWays.find? fun w => (c.ways[w]).isNone with
  | none => exact absurd invalid (List.find?_eq_none.mp h v (List.mem_finRange v))
  | some w =>
    obtain rfl : w = c.wayToFill t := by simp only [CacheSet.wayToFill, miss, h]
    have found : (c.ways[c.wayToFill t]).isNone = true := List.find?_some (p := fun w : Fin 4 => (c.ways[w]).isNone) h
    exact ⟨Option.isNone_iff_eq_none.mp found, find?_finRange_lowest h invalid⟩

/-- A tag that its set does not hold fills the least recent way of a full set (R26). -/
theorem CacheSet.wayToFill_full {c : CacheSet} {t : Tag} (miss : c.wayOf t = none) (full : ∀ a : Fin 4, c.ways[a] ≠ none)
    {v : Fin 4} (hv : c.recency.getLast? = some v) : c.wayToFill t = v := by
  have none : (allWays.find? fun w => (c.ways[w]).isNone) = none := by
    rw [List.find?_eq_none]
    intro w _ hw
    exact full w (Option.isNone_iff_eq_none.mp hw)
  rw [CacheSet.wayToFill, miss]
  simp only [none, hv, Option.getD_some]

/-- After a fill the next lookup of its tag finds it. -/
theorem State.cacheHit_fillCache (s : State) (e : CacheEntry) :
    (s.fillCache e).cacheHit e.tag = some (s.cache[tagSet e.tag].wayToFill e.tag, e) := by
  rw [State.cacheHit_eq_some, State.fillCache, State.cache_setCacheSet_self]
  exact ⟨CacheSet.fill_wayOf _ e, (CacheSet.fill_ways _ e _).trans (if_pos rfl)⟩

/-- After an invalidation no entry of the tag is found, where its set held one at most. -/
theorem State.cacheHit_invalidateTag {s : State} {t : Tag}
    (single : ∀ (v w : Fin 4) a b, s.cache[tagSet t].ways[v] = some a → s.cache[tagSet t].ways[w] = some b →
      a.tag = b.tag → v = w) : (s.invalidateTag t).cacheHit t = none := by
  rw [State.cacheHit_eq_none, State.invalidateTag, State.cache_setCacheSet_self, CacheSet.wayOf_eq_none_iff]
  exact fun v x => CacheSet.invalidate_forgets single

/-- A hit becomes the most recent of its set, and stays the hit of its tag. -/
theorem State.cacheHit_touch {s : State} {t : Tag} {way : Fin 4} {e : CacheEntry} (h : s.cacheHit t = some (way, e)) :
    (s.setCacheSet (tagSet t) (s.cache[tagSet t].touch way)).cacheHit t = some (way, e) := by
  obtain ⟨hway, he⟩ := State.cacheHit_eq_some.mp h
  rw [State.cacheHit_eq_some, State.cache_setCacheSet_self]
  exact ⟨hway, he⟩

/-! ## Effective rights -/

/-- A right is effective exactly where zone and bay both hold it (R10). -/
theorem Rights.has_inter (a b : Rights) (right : Right) : (a.inter b).has right = (a.has right && b.has right) := by
  cases right <;> rfl

/-! ## The statement -/

/-- R26 and R28 of one fill: the way it takes, and what it leaves. -/
theorem State.fillCache_spec (s : State) (e : CacheEntry) :
    ((s.fillCache e).cacheHit e.tag).map Prod.snd = some e ∧
    (s.fillCache e).cache[tagSet e.tag].recency.head? = ((s.fillCache e).cacheHit e.tag).map Prod.fst ∧
    (∀ k, k ≠ tagSet e.tag → (s.fillCache e).cache[k] = s.cache[k]) ∧
    (∀ c : CacheSet, c = s.cache[tagSet e.tag] →
      ∃ w : Fin 4, (s.fillCache e).cache[tagSet e.tag] =
          { ways := c.ways.set w (some e), recency := w :: c.recency.filter fun v => v ≠ w } ∧
        (∀ (v : Fin 4) x, c.ways[v] = some x → x.tag = e.tag → ∃ y, c.ways[w] = some y ∧ y.tag = e.tag) ∧
        ((∀ (v : Fin 4) x, c.ways[v] = some x → x.tag ≠ e.tag) →
          (∀ v : Fin 4, c.ways[v] = none → c.ways[w] = none ∧ w ≤ v) ∧
          (∀ v : Fin 4, (∀ a : Fin 4, c.ways[a] ≠ none) → c.recency.getLast? = some v → w = v))) := by
  have set := s.cache_setCacheSet_self (tagSet e.tag) (s.cache[tagSet e.tag].fill e)
  refine ⟨?_, ?_, fun k hk => s.cache_setCacheSet_ne _ (Ne.symm hk), ?_⟩
  · rw [State.cacheHit_fillCache, Option.map_some]
  · rw [State.cacheHit_fillCache, State.fillCache, set]
    rfl
  · rintro c rfl
    refine ⟨_, set, fun v x hv ht => CacheSet.ways_of_wayOf (CacheSet.wayToFill_own hv ht), fun miss => ?_⟩
    have miss := CacheSet.wayOf_eq_none_iff.mpr miss
    exact ⟨fun v => CacheSet.wayToFill_invalid miss, fun v full => CacheSet.wayToFill_full miss full⟩

/-- Settles O14: resolution by bay, the three ways of a lookup, and fills and invalidations set by set. -/
theorem subjectsResolve : Obligations.SubjectsResolve := by
  refine ⟨fun b s => ⟨fun hclosed => ?_, fun hopen hempty => ?_, fun i hopen hocc => ?_⟩,
    fun w t s ht => ⟨fun hmiss hidle => ?_, fun q hmiss hbusy => ?_, fun way e hit => ?_⟩, fun e t s => ?_⟩
  · rw [State.resolveBay, if_neg (Bool.eq_false_iff.mp hclosed)]
  · rw [State.resolveBay, if_pos hopen, hempty]
  · refine ⟨⟨i, b, s.rightsAt b, .walked⟩, ?_, rfl, rfl, rfl, Rights.has_inter _ _⟩
    rw [State.resolveBay, if_pos hopen, hocc]
  · rw [State.lookup_of_miss w ht hmiss, State.startSearch, hidle]
  · rw [State.lookup_of_miss w ht hmiss, State.startSearch, hbusy]
  · refine ⟨_, State.lookup_of_hit w ht hit, rfl, State.cacheHit_touch hit, ?_⟩
    rw [State.cache_setCacheSet_self]
    rfl
  · obtain ⟨hit, recent, others, taken⟩ := s.fillCache_spec e
    exact ⟨hit, recent, others, taken, fun k hk => s.cache_setCacheSet_ne _ (Ne.symm hk),
      fun single => State.cacheHit_invalidateTag fun v w a b => single (tagSet t) v w a b⟩

end Sys2Proof.Machine
end

section
/-! # PLACE and its search -/

namespace Sys2Proof.Machine

open Sys2Proof

theorem State.setActivity_setActivity (s : State) (p : PortId) (a b : PortActivity) :
    (s.setActivity p a).setActivity p b = s.setActivity p b := by
  cases p <;> rfl

/-- Every record below the lowest free one is taken. -/
theorem State.record?_of_lt_firstFree {s : State} {i j : RecIdx} (h : s.firstFree = some i) (hj : j < i) :
    s.record? j ≠ none := by
  intro hnone
  exact absurd hj (not_lt.mpr (find?_finRange_lowest h (by rw [hnone]; rfl)))

/-- The invalidation of a tag that is not cached changes nothing. -/
theorem State.invalidateTag_of_miss {s : State} {t : Tag} (h : s.cacheHit t = none) : s.invalidateTag t = s := by
  have same : s.cache[tagSet t].invalidate t = s.cache[tagSet t] := by
    rw [CacheSet.invalidate, State.cacheHit_eq_none.mp h]
  have cache : s.cache.set (tagSet t) s.cache[tagSet t] = s.cache := Vector.set_getElem_self _
  rw [State.invalidateTag, State.setCacheSet, same, cache]

/-- The part with the tag placed in a bay, in a record (Table 1-2). -/
def State.withPlaced (s : State) (i : RecIdx) (t : Tag) (b : BayAddr) (source : Option Source) (load : Option Nat) : State :=
  (s.setRecord i (some (TrailerRecord.placed t b source load s.zones[b.zone].frostThreshold))).setBay b
    { s.bayAt b with occupant := some i }

/-- The part with a PLACE held by its port while its search runs. -/
def State.placing (s : State) (t : Tag) (b : BayAddr) (source : Option Source) (load : Option Nat) : State :=
  { s with engine := some ⟨.master .ofc, t⟩ }.setActivity .ofc (.waiting (.request (.place t b source load)))

/-- PLACE of a tag that is neither cached nor placed, in an empty bay, with a record free (R15). -/
theorem State.doPlace_of_free {s : State} {t : Tag} {b : BayAddr} {i : RecIdx} (hempty : (s.bayAt b).occupant = none)
    (hfree : s.firstFree = some i) (hmiss : s.cacheHit t = none) (source : Option Source) (load : Option Nat) :
    s.doPlace t b source load = (s.withPlaced i t b source load, .done (.placed i)) := by
  have miss : (s.withPlaced i t b source load).cacheHit t = none := hmiss
  rw [State.doPlace, hempty, hfree]
  exact Prod.ext (State.invalidateTag_of_miss miss) rfl

/-- A PLACE of an open zone whose tag misses, with the engine IDLE, is held by its port while its search runs (R15, R28). -/
theorem State.takeRequest_place {s : State} {t : Tag} {b : BayAddr} {source : Option Source} {load : Option Nat}
    (ht : t ≠ 0) (hopen : s.zones[b.zone].isOpen = true) (hmiss : s.cacheHit t = none) (hidle : s.engine = none) :
    s.takeRequest .ofc (.place t b source load) = (s.placing t b source load, none) := by
  rw [State.takeRequest, if_pos hopen, State.lookupFor, State.lookup_of_miss _ ht hmiss, State.startSearch, hidle]
  rfl

/-- A search that finds nothing for a held PLACE has it done, and the engine is IDLE where nothing waits (R28, R29). -/
theorem State.completeSearch_place {s : State} {t : Tag} {b : BayAddr} {source : Option Source} {load : Option Nat} {i : RecIdx}
    (hengine : s.engine = some ⟨.master .ofc, t⟩) (hwait : s.waitList = [])
    (hport : (s.port .ofc).activity = .waiting (.request (.place t b source load))) (fresh : s.findTag t = none)
    (hempty : (s.bayAt b).occupant = none) (hfree : s.firstFree = some i) (hmiss : s.cacheHit t = none) :
    s.completeSearch =
      ({ s.withPlaced i t b source load with engine := none }).answered .ofc .place (.done (.placed i)) := by
  have result : s.searchResult t = (s, .notFound) := by rw [State.searchResult, fresh]
  have delivered : s.deliver (.master .ofc) .notFound =
      (s.withPlaced i t b source load).answered .ofc .place (.done (.placed i)) := by
    have activity : (s.port Master.ofc.port).activity = .waiting (.request (.place t b source load)) := hport
    rw [State.deliver]
    simp only [activity, State.resume, State.goOn, State.doPlace_of_free hempty hfree hmiss]
    rfl
  have idle : ∀ u : State, u.waitList = [] → (u.answered .ofc .place (.done (.placed i))).nextSearch =
      { u with engine := none }.answered .ofc .place (.done (.placed i)) := by
    intro u hu
    obtain ⟨⟩ := u
    cases hu
    rfl
  rw [State.completeSearch, hengine]
  simp only [result, delivered]
  exact idle _ hwait

/-- A search that completes with nothing due. -/
theorem exec_searchComplete {s : State} (hsupply : s.supply = .inService) (hdue : s.due = []) :
    exec .searchComplete s = .next s.completeSearch := by
  show Host.Outcome.next (s.settle.whenInService State.completeSearch) = _
  rw [State.settle_of_nothing_due hdue, State.whenInService, if_pos hsupply]

/-- The reply to a PLACE takes the place of what its port held. -/
theorem State.answered_of_placing (s : State) (i : RecIdx) (t : Tag) (b : BayAddr) (source : Option Source)
    (load : Option Nat) (reply : MasterReply) :
    { (s.placing t b source load).withPlaced i t b source load with engine := none }.answered .ofc .place reply =
      { s.withPlaced i t b source load with engine := none }.answered .ofc .place reply :=
  State.setActivity_setActivity { s.withPlaced i t b source load with engine := none } .ofc _ _

/-- Settles O16: the request is held while the search runs, and the search that finds nothing has it done. -/
theorem placePlaces : Obligations.PlacePlaces := by
  intro t b source load i s h hrange hopen hempty hidle hmiss fresh hwait hfree
  have ht : t ≠ 0 := by
    simp only [Request.inRange, Bool.and_eq_true, decide_eq_true_eq] at hrange
    exact hrange.1
  have request := exec_request (m := .ofc) (req := .place t b source load) h hrange rfl
  rw [State.takeRequest_place (s := s.received Master.ofc.port) ht hopen hmiss hidle] at request
  obtain ⟨hsupply, -, hdue⟩ := h
  have search := exec_searchComplete (s := (s.received .ofc).placing t b source load) hsupply hdue
  rw [State.completeSearch_place (s := (s.received .ofc).placing t b source load) rfl hwait rfl fresh hempty hfree hmiss,
    State.answered_of_placing] at search
  exact ⟨_, _, request, rfl, search, rfl, fun j => State.record?_of_lt_firstFree hfree⟩

end Sys2Proof.Machine
end

section
/-! # A mains return and the queue it rebuilds -/

namespace Sys2Proof.Machine

open Sys2Proof

/-! ## The order of the Defrost Queue -/

theorem QueueEntry.ahead_iff {a b : QueueEntry} :
    a.ahead b = true ↔ b.excess < a.excess ∨ (a.excess = b.excess ∧ a.joinedAt < b.joinedAt) := by
  simp [QueueEntry.ahead]

theorem QueueEntry.ahead_trans {a b c : QueueEntry} (hab : a.ahead b = true) (hbc : b.ahead c = true) :
    a.ahead c = true := by
  rw [QueueEntry.ahead_iff] at *
  omega

/-- Of two entries with different joined-at numbers one stands ahead. -/
theorem QueueEntry.ahead_total {a b : QueueEntry} (hne : a.joinedAt ≠ b.joinedAt) (h : ¬ a.ahead b = true) :
    b.ahead a = true := by
  rw [QueueEntry.ahead_iff] at *
  omega

/-- An insertion adds its entry to those of the queue. -/
theorem insertEntry_perm (e : QueueEntry) (q : List QueueEntry) : (insertEntry e q).Perm (e :: q) := by
  induction q with
  | nil => exact .refl _
  | cons x xs ih =>
    rw [insertEntry]
    split
    · exact .refl _
    · exact (ih.cons x).trans (.swap e x xs)

/-- An insertion of an entry whose joined-at number is new keeps the order (R93). -/
theorem insertEntry_sorted {e : QueueEntry} {q : List QueueEntry} (sorted : q.Pairwise fun a b => a.ahead b = true)
    (new : ∀ x ∈ q, e.joinedAt ≠ x.joinedAt) : (insertEntry e q).Pairwise fun a b => a.ahead b = true := by
  induction q with
  | nil => exact List.pairwise_singleton _ _
  | cons x xs ih =>
    obtain ⟨first, rest⟩ := List.pairwise_cons.mp sorted
    rw [insertEntry]
    split
    · next hahead =>
      refine List.pairwise_cons.mpr ⟨fun y hy => ?_, sorted⟩
      rcases List.mem_cons.mp hy with rfl | hy
      · exact hahead
      · exact QueueEntry.ahead_trans hahead (first y hy)
    · next hbehind =>
      refine List.pairwise_cons.mpr ⟨fun y hy => ?_, ih rest fun y hy => new y (List.mem_cons_of_mem x hy)⟩
      rcases List.mem_cons.mp ((insertEntry_perm e xs).mem_iff.mp hy) with rfl | hy
      · exact QueueEntry.ahead_total (new x List.mem_cons_self) hbehind
      · exact first y hy

theorem foldr_insertEntry_perm (l : List QueueEntry) : (l.foldr insertEntry []).Perm l := by
  induction l with
  | nil => exact .refl _
  | cons e l ih => exact (insertEntry_perm e _).trans (ih.cons e)

/-- Entries with distinct joined-at numbers, inserted one by one, stand in order. -/
theorem foldr_insertEntry_sorted {l : List QueueEntry} (distinct : l.Pairwise fun a b => a.joinedAt ≠ b.joinedAt) :
    (l.foldr insertEntry []).Pairwise fun a b => a.ahead b = true := by
  induction l with
  | nil => exact .nil
  | cons e l ih =>
    obtain ⟨new, distinct⟩ := List.pairwise_cons.mp distinct
    exact insertEntry_sorted (ih distinct) fun x hx => new x ((foldr_insertEntry_perm l).mem_iff.mp hx)

/-! ## Numbers given afresh -/

/-- A queue entry without its joined-at number. -/
def QueueEntry.unnumbered (e : QueueEntry) : QueueEntry := { e with joinedAt := 0 }

/-- New numbers change nothing else. -/
theorem renumberFrom_unnumbered (n : Nat) (q : List QueueEntry) :
    (renumberFrom n q).map QueueEntry.unnumbered = q.map QueueEntry.unnumbered := by
  induction q generalizing n with
  | nil => rfl
  | cons e q ih => exact congrArg (e.unnumbered :: ·) (ih (n + 1))

theorem length_renumberFrom (n : Nat) (q : List QueueEntry) : (renumberFrom n q).length = q.length := by
  have same := congrArg List.length (renumberFrom_unnumbered n q)
  rwa [List.length_map, List.length_map] at same

theorem joinedAt_renumberFrom (n : Nat) (q : List QueueEntry) :
    (renumberFrom n q).map QueueEntry.joinedAt = List.range' n q.length := by
  induction q generalizing n with
  | nil => rfl
  | cons e q ih => exact congrArg (n :: ·) (ih (n + 1))

/-- A renumbered queue holds the entries of the queue, as far as their numbers go. -/
theorem exists_renumberFrom_iff {p : QueueEntry → Prop} (hp : ∀ e, p e ↔ p e.unnumbered) (n : Nat) (q : List QueueEntry) :
    (∃ e ∈ renumberFrom n q, p e) ↔ ∃ e ∈ q, p e := by
  have mapped : ∀ l : List QueueEntry, (∃ e ∈ l, p e) ↔ ∃ e ∈ l.map QueueEntry.unnumbered, p e := fun l => by
    simp only [List.mem_map, exists_exists_and_eq_and]
    exact exists_congr fun e => and_congr_right fun _ => hp e
  rw [mapped, renumberFrom_unnumbered, ← mapped]

/-- A relation that does not read the numbers holds along a renumbered queue as along the queue. -/
theorem pairwise_renumberFrom {R : QueueEntry → QueueEntry → Prop} (hR : ∀ a b, R a b ↔ R a.unnumbered b.unnumbered) (n : Nat)
    (q : List QueueEntry) : (renumberFrom n q).Pairwise R ↔ q.Pairwise R := by
  have mapped : ∀ l : List QueueEntry, l.Pairwise R ↔ (l.map QueueEntry.unnumbered).Pairwise R := fun l => by
    rw [List.pairwise_map]
    exact ⟨.imp (hR _ _).mp, .imp (hR _ _).mpr⟩
  rw [mapped, renumberFrom_unnumbered, ← mapped]

/-! ## The rebuilt queue -/

theorem rebuiltEntry_eq_some {i : RecIdx} {r : TrailerRecord} {e : QueueEntry} :
    rebuiltEntry i r = some e ↔
      r.threshold ≤ r.level ∧ r.cancelLatch = false ∧ e = ⟨i, r.level - r.threshold, false, i.val, 0⟩ := by
  unfold rebuiltEntry
  split
  · next h =>
    rw [Option.some_inj, eq_comm]
    simp [h]
  · next h =>
    simp only [reduceCtorEq, false_iff]
    rintro ⟨level, latch, -⟩
    exact h ⟨level, by simp [latch]⟩

/-- The entries of a rebuild, before they are put in order. -/
def State.rebuiltEntries (s : State) : List QueueEntry := allRecords.filterMap fun i => (s.record? i).bind (rebuiltEntry i)

/-- A record has its entry in the rebuild where its level meets its threshold with the cancel latch clear (R117). -/
theorem State.mem_rebuiltEntries {s : State} {e : QueueEntry} :
    e ∈ s.rebuiltEntries ↔ ∃ r, s.record? e.record = some r ∧ r.threshold ≤ r.level ∧ r.cancelLatch = false ∧
      e = ⟨e.record, r.level - r.threshold, false, e.record.val, 0⟩ := by
  simp only [State.rebuiltEntries, allRecords, List.mem_filterMap, List.mem_finRange, true_and, Option.bind_eq_some_iff,
    rebuiltEntry_eq_some]
  constructor
  · rintro ⟨i, r, hr, level, latch, rfl⟩
    exact ⟨r, hr, level, latch, rfl⟩
  · rintro ⟨r, hr, level, latch, he⟩
    exact ⟨e.record, r, hr, level, latch, he⟩

/-- The entries of a rebuild are numbered by their records, each record once. -/
theorem State.rebuiltEntries_distinct (s : State) : s.rebuiltEntries.Pairwise fun a b => a.joinedAt ≠ b.joinedAt := by
  refine List.Pairwise.filterMap _ (fun i j hij a ha b hb => ?_) (List.pairwise_lt_finRange 48)
  obtain ⟨_, -, ha⟩ := Option.bind_eq_some_iff.mp ha
  obtain ⟨_, -, hb⟩ := Option.bind_eq_some_iff.mp hb
  obtain ⟨-, -, rfl⟩ := rebuiltEntry_eq_some.mp ha
  obtain ⟨-, -, rfl⟩ := rebuiltEntry_eq_some.mp hb
  exact Fin.val_ne_of_ne (ne_of_lt hij)

theorem State.rebuiltQueue_eq (s : State) : s.rebuiltQueue = renumberFrom 1 (s.rebuiltEntries.foldr insertEntry []) := rfl

/-- What a rebuilt queue holds, as far as the joined-at numbers go, is what the records give. -/
theorem State.exists_rebuiltQueue_iff {p : QueueEntry → Prop} (hp : ∀ e, p e ↔ p e.unnumbered) (s : State) :
    (∃ e ∈ s.rebuiltQueue, p e) ↔ ∃ e ∈ s.rebuiltEntries, p e := by
  rw [State.rebuiltQueue_eq, exists_renumberFrom_iff hp]
  exact exists_congr fun e => and_congr_left fun _ => (foldr_insertEntry_perm _).mem_iff

/-- An entry of the rebuilt queue is that of a record whose level meets its threshold with the cancel latch clear. -/
theorem State.record_of_mem_rebuiltQueue {s : State} {e : QueueEntry} (h : e ∈ s.rebuiltQueue) :
    ∃ r, s.record? e.record = some r ∧ r.threshold ≤ r.level ∧ r.cancelLatch = false ∧ e.excess = r.level - r.threshold ∧
      e.manual = false ∧ e.passCount = 0 := by
  obtain ⟨x, hx, same⟩ := (s.exists_rebuiltQueue_iff (p := fun x => x.unnumbered = e.unnumbered) (fun _ => Iff.rfl)).mp
    ⟨e, h, rfl⟩
  obtain ⟨r, hr, level, latch, entry⟩ := State.mem_rebuiltEntries.mp hx
  rw [entry] at same
  simp only [QueueEntry.unnumbered, QueueEntry.mk.injEq] at same
  obtain ⟨record, excess, manual, -, passes⟩ := same
  rw [record] at hr
  exact ⟨r, hr, level, latch, excess.symm, manual.symm, passes.symm⟩

/-- A record whose level meets its threshold with the cancel latch clear stands in the rebuilt queue. -/
theorem State.mem_rebuiltQueue_of_record {s : State} {i : RecIdx} {r : TrailerRecord} (hr : s.record? i = some r)
    (level : r.threshold ≤ r.level) (latch : r.cancelLatch = false) : ∃ e ∈ s.rebuiltQueue, e.record = i :=
  (s.exists_rebuiltQueue_iff (p := fun e => e.record = i) (fun _ => Iff.rfl)).mpr
    ⟨⟨i, r.level - r.threshold, false, i.val, 0⟩, State.mem_rebuiltEntries.mpr ⟨r, hr, level, latch, rfl⟩, rfl⟩

/-- The rebuilt queue stands in order of excess, and of equal ones in order of index (R117). -/
theorem State.rebuiltQueue_sorted (s : State) :
    s.rebuiltQueue.Pairwise fun a b => b.excess < a.excess ∨ (a.excess = b.excess ∧ a.record < b.record) := by
  rw [State.rebuiltQueue_eq, pairwise_renumberFrom fun _ _ => Iff.rfl]
  refine (foldr_insertEntry_sorted s.rebuiltEntries_distinct).imp_of_mem fun {a b} ha hb hab => ?_
  have numbered : ∀ e ∈ s.rebuiltEntries.foldr insertEntry [], e.joinedAt = e.record.val := by
    intro e he
    obtain ⟨_, -, -, -, entry⟩ := State.mem_rebuiltEntries.mp ((foldr_insertEntry_perm _).mem_iff.mp he)
    rw [entry]
  rwa [QueueEntry.ahead_iff, numbered a ha, numbered b hb] at hab

/-- The rebuilt queue is numbered from 1 in its order (R117). -/
theorem State.rebuiltQueue_numbered (s : State) :
    s.rebuiltQueue.map QueueEntry.joinedAt = List.range' 1 s.rebuiltQueue.length := by
  rw [State.rebuiltQueue_eq, joinedAt_renumberFrom, length_renumberFrom]

/-! ## The mains return -/

/-- A mains return of a part that is not cold restarts it (R177, R179). -/
theorem exec_mfailReleased_warm {strap : Bool} {s : State} (hsupply : s.supply = .standby) (hcold : s.coldPending = false)
    (hdue : s.due = []) : exec (.mfailReleased strap) s = .next (s.warmRestart .mainsReturn strap) := by
  show Host.Outcome.next (s.settle.returnMains strap) = _
  rw [State.settle_of_nothing_due hdue, State.returnMains, hsupply]
  simp only [hcold, Bool.false_eq_true, if_false]

/-- What a warm restart leaves besides the records, the Check List and the queue: what backup RAM retains, and the cold values
of the rest (R179). -/
theorem State.warmRestart_frame {s t : State} {cause : RestartCause} {strap : Bool} (ht : s.warmRestart cause strap = t)
    (hcold : s.coldPending = false) (hdue : s.due = []) :
    t = { State.cold strap with
          zones := s.zones, bays := s.bays, clock := s.clock, plans := s.plans, links := s.links, settings := s.settings,
          nextSerial := s.nextSerial, pending := s.pending, cause := cause, records := t.records,
          checks := t.checks, queue := t.queue, nextJoin := t.queue.length + 1 } := by
  subst ht
  simp only [State.warmRestart, State.rebuildQueue, State.clearVolatile, State.cold, hcold, hdue]

theorem State.warmRestart_record? (s : State) (cause : RestartCause) (strap : Bool) (i : RecIdx) :
    (s.warmRestart cause strap).record? i = (s.record? i).map fun r => r.restarted (s.effectiveThreshold r) := by
  rw [State.record?, State.warmRestart_records]
  simp

theorem State.rebuildQueue_queue (s : State) : s.rebuildQueue.queue = s.rebuiltQueue := rfl

theorem State.warmRestart_queue (s : State) (cause : RestartCause) (strap : Bool) :
    (s.warmRestart cause strap).queue = (s.clearVolatile cause strap).rebuiltQueue := State.rebuildQueue_queue _

theorem State.rebuildQueue_record? (s : State) (i : RecIdx) : s.rebuildQueue.record? i = s.record? i := rfl

/-- The queue is rebuilt from the records as the restart leaves them. -/
theorem State.warmRestart_record?_eq (s : State) (cause : RestartCause) (strap : Bool) (i : RecIdx) :
    (s.warmRestart cause strap).record? i = (s.clearVolatile cause strap).record? i := State.rebuildQueue_record? _ i

theorem State.warmRestart_checks (s : State) (cause : RestartCause) (strap : Bool) :
    (s.warmRestart cause strap).checks = s.checks.map CheckItem.restarted := rfl

/-- Settles O52: the restart field by field, and the queue rebuilt from the records as the restart has left them. -/
theorem mainsReturnRestarts : Obligations.MainsReturnRestarts := by
  intro strap s hsupply hcold hdue
  have frame := State.warmRestart_frame (s := s) (cause := .mainsReturn) (strap := strap) rfl hcold hdue
  refine ⟨_, exec_mfailReleased_warm hsupply hcold hdue, frame, s.warmRestart_record? .mainsReturn strap,
    s.warmRestart_checks .mainsReturn strap, ?_⟩
  simp only [State.warmRestart_queue, State.warmRestart_record?_eq]
  exact ⟨fun e => State.record_of_mem_rebuiltQueue, fun i r => State.mem_rebuiltQueue_of_record,
    State.rebuiltQueue_sorted _, State.rebuiltQueue_numbered _⟩

end Sys2Proof.Machine
end

section
/-! # A search that completes -/

namespace Sys2Proof.Machine

open Sys2Proof

/-- What the engine does for its search is the outcome of that search, delivered to its caller, and the oldest waiter taken
(R28). -/
theorem State.completeSearch_of_engine {s : State} {w : Waiter} {t : Tag} (hengine : s.engine = some ⟨w, t⟩) :
    s.completeSearch = ((s.searchResult t).1.deliver w (s.searchResult t).2).nextSearch := by
  rw [State.completeSearch, hengine]

/-- A search whose tag no placed record holds answers its caller not found (R31). -/
theorem exec_searchComplete_notFound {s : State} {w : Waiter} {t : Tag} (hsupply : s.supply = .inService) (hdue : s.due = [])
    (hengine : s.engine = some ⟨w, t⟩) (hnone : s.findTag t = none) :
    exec .searchComplete s = .next (s.deliver w .notFound).nextSearch := by
  rw [exec_searchComplete hsupply hdue, State.completeSearch_of_engine hengine, State.searchResult, hnone]

/-- A search whose tag a placed record holds fills the cache with it and answers its caller with the same (R29, R30). -/
theorem exec_searchComplete_found {s : State} {w : Waiter} {t : Tag} {i : RecIdx} {r : TrailerRecord}
    (hsupply : s.supply = .inService) (hdue : s.due = []) (hengine : s.engine = some ⟨w, t⟩) (hfind : s.findTag t = some i)
    (hr : s.record? i = some r) :
    exec .searchComplete s =
      .next ((s.fillCache ⟨t, i, r.bay, s.rightsAt r.bay⟩).deliver w
        (.found ⟨i, r.bay, s.rightsAt r.bay, .walked⟩)).nextSearch := by
  rw [exec_searchComplete hsupply hdue, State.completeSearch_of_engine hengine, State.searchResult, hfind]
  simp only [hr]

/-- What a port holds goes on with the answer of its search, and is answered under its own kind (R30, R31). -/
theorem State.deliver_master {s : State} {m : Master} {held : Held} (hport : (s.port m.port).activity = .waiting held)
    (a : Answer) : s.deliver (.master m) a = State.answer m held.code (s.resume m held a) := by
  rw [State.deliver, hport]

/-- A fill of the cache leaves every port as it was. -/
@[simp] theorem State.port_fillCache (s : State) (e : CacheEntry) (p : PortId) : (s.fillCache e).port p = s.port p := rfl

/-- Raising an event leaves the Intake FIFO as it was. -/
theorem State.raise_fifo (e : Event) (s : State) : (s.raise e).fifo = s.fifo := by
  have fifo : (s.raise e).outsideNotices.fifo = s.outsideNotices.fifo := congrArg State.fifo (s.raise_frame e)
  exact fifo

/-- A head whose tag is not found leaves the FIFO with UNKNOWN_UNIT (R31). -/
theorem State.answerIntake_notFound {s : State} {u : UnitReport} {rest : List UnitReport} (hfifo : s.fifo = u :: rest) :
    s.answerIntake .notFound =
      { s.raise ⟨.tagAlone u.tag, .unknownUnit u.sequence⟩ with fifo := rest, intake := .idle } := by
  simp only [State.answerIntake, hfifo, State.discardUnknown, State.dropHead, State.raise_fifo, List.tail_cons]

/-- Either outcome of a search reaches what a master's port holds, a request or a NEXT_CHECK. -/
theorem exec_searchComplete_master {s : State} {m : Master} {t : Tag} {held : Held} (hsupply : s.supply = .inService)
    (hdue : s.due = []) (hengine : s.engine = some ⟨.master m, t⟩) (hport : (s.port m.port).activity = .waiting held) :
    (s.findTag t = none →
      exec .searchComplete s = .next (State.answer m held.code (s.resume m held .notFound)).nextSearch) ∧
    ∀ i r, s.findTag t = some i → s.record? i = some r →
      exec .searchComplete s =
        .next (State.answer m held.code ((s.fillCache ⟨t, i, r.bay, s.rightsAt r.bay⟩).resume m held
          (.found ⟨i, r.bay, s.rightsAt r.bay, .walked⟩))).nextSearch := by
  refine ⟨fun hnone => ?_, fun i r hfind hr => ?_⟩
  · rw [exec_searchComplete_notFound hsupply hdue hengine hnone, State.deliver_master hport]
  · rw [exec_searchComplete_found hsupply hdue hengine hfind hr, State.deliver_master (by rwa [State.port_fillCache])]

/-- Settles O20: the two outcomes of the search, delivered to what the port holds or to the head of the Intake FIFO. -/
theorem searchCompletes : Obligations.SearchCompletes := by
  intro m t s hsupply hdue
  refine ⟨fun req hengine hport => exec_searchComplete_master hsupply hdue hengine hport,
    fun considered item hengine hport => exec_searchComplete_master hsupply hdue hengine hport,
    fun u rest hengine hfifo => ⟨fun hnone => ?_, fun i r hfind hr => ?_⟩⟩
  · rw [exec_searchComplete_notFound hsupply hdue hengine hnone, State.deliver, State.answerIntake_notFound hfifo]
  · rw [exec_searchComplete_found hsupply hdue hengine hfind hr, State.deliver, State.answerIntake]

end Sys2Proof.Machine
end

section
/-! # Supplies and STANDBY -/

namespace Sys2Proof.Machine

open Sys2Proof

/-! ## The moves of Table 11-1 -/

/-- The entry to STANDBY releases each attention line and leaves the rest of each desk (R165). -/
theorem State.desk_releaseLines (s : State) (m : Master) : s.releaseLines.desk m = { s.desk m with line := false } := by
  cases m <;> rfl

/-- MFAIL asserted in service: the lines are released, and the ports, the engine and the Intake FIFO are left empty (R178). -/
theorem exec_mfailAsserted {s : State} (hsupply : s.supply = .inService) (hdue : s.due = []) :
    exec .mfailAsserted s = .next { s.releaseLines with
      supply := .standby, ports := Ports.cold, engine := none, waitList := [], fifo := [], intake := .idle,
      restartDue := false } := by
  show Host.Outcome.next s.settle.failMains = _
  rw [State.settle_of_nothing_due hdue, State.failMains, hsupply]

/-- A supply applied to an unpowered part brings it to STANDBY with a cold start pending (R177). -/
theorem exec_supplyApplied {s : State} (hsupply : s.supply = .unpowered) (hdue : s.due = []) :
    exec .supplyApplied s = .next { s with supply := .standby, coldPending := true } := by
  show Host.Outcome.next s.settle.applySupply = _
  rw [State.settle_of_nothing_due hdue, State.applySupply, hsupply]

theorem exec_supplyLoss {s : State} (hdue : s.due = []) : exec .supplyLoss s = .next s.loseSupply := by
  show Host.Outcome.next s.settle.loseSupply = _
  rw [State.settle_of_nothing_due hdue]

/-! ## Out of service -/

/-- In STANDBY a second tick moves the Yard Clock alone, unless cold-pending is set (R177, R178). -/
theorem exec_secondTick_standby {s : State} (hsupply : s.supply = .standby) (hdue : s.due = []) :
    exec .secondTick s = .next (if s.coldPending then s else { s with clock := s.clock.tick }) := by
  show Host.Outcome.next s.settle.secondTick = _
  rw [State.settle_of_nothing_due hdue, State.secondTick, hsupply]

/-- A frame of any kind byte, known or not, is received once what the last tick brought about is settled. -/
theorem exec_frameCommand_kind (p : PortId) (kind : Byte) (body : List Byte) (s : State) :
    exec (frameCommand p kind body) s = .next (State.receiveFrame p kind body s.settle) := by
  cases hkind : Kind.ofCode kind with
  | none =>
    rw [frameCommand, hkind]
    rfl
  | some k =>
    obtain rfl := Kind.eq_code_of_ofCode hkind
    exact exec_frameCommand p k body s

/-- Settles O50: the three moves between the supply states, and the ticks and frames of a part out of service. -/
theorem supplyMovesAndStands : Obligations.SupplyMovesAndStands := by
  refine ⟨fun s hdue => ⟨fun hsupply => ?_, fun hsupply => exec_supplyApplied hsupply hdue, ?_⟩,
    fun s hdue => ⟨fun hsupply hcold => ?_, fun hsupply hcold => ?_, fun hsupply p kind body => ?_⟩⟩
  · exact ⟨_, exec_mfailAsserted hsupply hdue, rfl, s.desk_releaseLines⟩
  · exact ⟨_, exec_supplyLoss hdue, rfl, rfl⟩
  · rw [exec_secondTick_standby hsupply hdue, if_neg (by simp [hcold])]
  · rw [exec_secondTick_standby hsupply hdue, if_pos hcold]
  · rw [exec_frameCommand_kind, State.settle_of_nothing_due hdue, receiveFrame_outOfService hsupply]

end Sys2Proof.Machine
end

section
/-! # What the work on a placed record keeps -/

namespace Sys2Proof.Machine

open Sys2Proof

/-- A placed record less what the Estimator, Chain Control, the Defrost Scheduler, the Unit Command Queue and a report's door
write in it. -/
def TrailerRecord.steady (r : TrailerRecord) : TrailerRecord :=
  { r with
    doorOpenSince := none, alarmMark := false, frost := 0, threshold := 0, fuelRef := none, fuelAge := 0, burnRate := 0
    runway := 0, fuelLow := false, lastRefuel := none, chain := [], run := none, notBefore := 0, cancelLatch := false
    slot := .empty, sequence := 0, seen := false, changed := false }

/-- A property of the part that the work on a placed record cannot end: it reads of the records no more than `steady` leaves,
it does not read the Defrost Scheduler's tables or the Downlink Queue, and events keep it. -/
structure KeptByWork (P : State → Prop) : Prop where
  update : ∀ (i : RecIdx) (f : TrailerRecord → TrailerRecord) (s : State), (∀ r, (f r).steady = r.steady) → P s →
    P (s.updRecord i f)
  tables : ∀ (s : State) (feeders : Vector Feeder 4) (queue : List QueueEntry) (nextJoin : Nat) (grants : List GrantItem)
    (nextGrant : Nat) (downlink : List RecIdx), P s →
    P { s with feeders := feeders, queue := queue, nextJoin := nextJoin, grants := grants, nextGrant := nextGrant,
               downlink := downlink }
  raise : ∀ (e : Event) (s : State), P s → P (s.raise e)

namespace KeptByWork

variable {P : State → Prop} (work : KeptByWork P) {s : State} (h : P s) (i : RecIdx)
include work h

theorem updRecord (f : TrailerRecord → TrailerRecord) (hf : ∀ r, (f r).steady = r.steady := by exact fun _ => rfl) :
    P (s.updRecord i f) := work.update i f s hf h

theorem raiseFor (d : Detail) : P (s.raiseFor i d) := work.raise _ s h

/-! ## Chains and commands -/

theorem queueCommand (c : Command) : P (s.queueCommand i c) :=
  work.tables _ _ _ _ _ _ _ (work.updRecord h i fun r => { r with slot := .queued c })

theorem handOff (w : Command) : P (s.handOff i w) := by
  unfold State.handOff
  split
  · exact h
  · split
    · exact h
    · split
      · exact work.queueCommand h i w
      · exact work.updRecord h i _
      · split
        · exact h
        · exact work.updRecord h i _
      · split <;> exact work.updRecord h i _

theorem pushActivity (k : Activity) (setBy : Option Master) : P (s.pushActivity i k setBy) := by
  unfold State.pushActivity
  split
  · exact h
  · split
    · exact h
    · exact work.handOff (work.updRecord h i _) i _

theorem removeActivity (k : Activity) : P (s.removeActivity i k) := by
  unfold State.removeActivity
  split
  · exact h
  · split
    · simp only
      split
      · exact work.handOff (work.updRecord h i _) i _
      · exact work.updRecord h i _
    · exact h

theorem clearFlight : P (s.clearFlight i) := by
  unfold State.clearFlight
  split
  · exact h
  · split
    · exact work.updRecord h i _
    · exact work.queueCommand h i _
    · exact h
    · exact h

theorem matchConfirmation (c : Option Nat) : P (s.matchConfirmation i c) := by
  unfold State.matchConfirmation
  split
  · split
    · split
      · exact work.clearFlight h i
      · exact h
    · exact h
  · exact h

theorem requeueOnEcho (echo : ModeEcho) : P (s.requeueOnEcho i echo) := by
  unfold State.requeueOnEcho
  split
  · split
    · exact work.queueCommand h i _
    · exact h
  · exact h

theorem timeoutCommand : P (s.timeoutCommand i) := by
  unfold State.timeoutCommand
  split
  · exact h
  · exact work.clearFlight (work.raiseFor h i _) i

omit i in
theorem sendHead : P s.sendHead.1 := by
  unfold State.sendHead
  split
  · exact h
  · split
    · exact h
    · next i rest _ =>
      have sent : P { s with downlink := rest } := work.tables s _ _ _ _ _ rest h
      simp only
      split
      · exact sent
      · split
        · exact work.updRecord sent _ _
        · exact sent
        · exact sent
        · exact sent

/-! ## The Estimator -/

theorem evaluateFuel (level : Nat) : P (s.evaluateFuel i level) := by
  unfold State.evaluateFuel
  split
  · exact h
  · simp only
    split
    · exact work.raiseFor (work.updRecord h i _) i _
    · exact work.updRecord h i _

theorem fuelCase (f : Nat) (stamp : YardTime) : P (s.fuelCase i f stamp) := by
  unfold State.fuelCase
  split
  · exact h
  · split
    · exact work.updRecord h i _
    · split
      · exact work.updRecord h i _
      · split
        · exact work.updRecord (work.raiseFor (work.updRecord h i _) i _) i _
        · split
          · exact work.updRecord h i _
          · exact h

theorem fuelUpdate (source : Source) (x : Readings) : P (s.fuelUpdate i source x) := by
  unfold State.fuelUpdate
  split
  · exact work.evaluateFuel (work.fuelCase h i _ _) i _
  · exact h

theorem postFuel (level : Nat) (refuelled : Bool) : P (s.postFuel i level refuelled) := by
  unfold State.postFuel
  refine work.evaluateFuel ?_ i level
  have posted : P (s.updRecord i fun r => { r with fuelRef := some level, fuelAge := 0 }) := work.updRecord h i _
  split
  · exact work.raiseFor (work.updRecord posted i _) i _
  · exact posted

/-! ## The Defrost Scheduler -/

omit i in
theorem joinRoom : P s.joinRoom := by
  unfold State.joinRoom
  split
  · exact work.tables _ _ _ _ _ _ _ h
  · exact h

theorem joinQueue (excess : Nat) (manual : Bool) (passCount : Nat) : P (s.joinQueue i excess manual passCount) :=
  work.tables _ _ _ _ _ _ _ (work.joinRoom h)

theorem leaveQueue : P (s.leaveQueue i) := work.tables _ _ _ _ _ _ _ h

omit i in
theorem rewriteEntry (e : QueueEntry) : P (s.rewriteEntry e) := work.tables _ _ _ _ _ _ _ h

theorem evaluateDemand : P (s.evaluateDemand i) := by
  unfold State.evaluateDemand
  split
  · exact h
  · split
    · exact work.raiseFor (work.joinQueue h i _ _ _) i _
    · exact h

theorem recomputeExcess : P (s.recomputeExcess i) := by
  unfold State.recomputeExcess
  split
  · split
    · exact h
    · split
      · exact work.rewriteEntry h _
      · exact work.leaveQueue h i
  · exact h

omit i in
theorem charge (f : FeederNo) (load : Nat) : P (s.charge f load) := work.tables _ _ _ _ _ _ _ h

omit i in
theorem discharge (f : FeederNo) (load : Nat) : P (s.discharge f load) := work.tables _ _ _ _ _ _ _ h

theorem grant (feeder : Option FeederNo) (load : Nat) : P (s.grant i feeder load) := by
  have written : P ((s.leaveQueue i).updRecord i fun r =>
      { r with run := some { grant := s.nextGrant, feeder := feeder, load := load, heating := 0, paused := 0 } }) :=
    work.updRecord (work.leaveQueue h i) i _
  unfold State.grant
  refine work.pushActivity (work.tables _ _ _ _ _ _ _ ?_) i _ _
  cases feeder with
  | none => exact written
  | some f => exact work.charge written f load

omit h in
theorem consider {p : Pass} (hp : P p.state) : P (p.consider i).state := by
  unfold Pass.consider
  split
  · split
    · simp only
      split
      · exact work.grant hp i none _
      · next f _ =>
        split
        · split
          · exact hp
          · exact work.tables _ _ _ _ _ _ _ (work.grant hp i (some f) _)
        · split
          · split <;> exact hp
          · exact hp
    · exact hp
  · exact hp

omit i in
theorem raiseShort (x : FeederNo × RecIdx) : P (s.raiseShort x) := by
  unfold State.raiseShort
  split
  · exact h
  · exact work.raiseFor h _ _

omit i in
/-- A grant pass, entry by entry and then event by event. -/
theorem grantPass : P s.grantPass := by
  have walked : P s.walkQueue.state :=
    List.foldlRecOn (motive := fun p : Pass => P p.state) _ Pass.consider h fun p hp i _ => work.consider i hp
  exact List.foldlRecOn (motive := P) _ State.raiseShort walked fun s h x _ => work.raiseShort h x

theorem reenqueue : P (s.reenqueue i) := by
  unfold State.reenqueue
  split
  · exact h
  · split
    · exact work.joinQueue h i _ _ _
    · exact h

theorem queueAction (k : EndKind) : P (s.queueAction i k) := by
  cases k with
  | timedOut => exact work.evaluateDemand h i
  | revoked => exact work.reenqueue h i
  | terminated | abandoned | cancelled | released => exact h

/-- The end of a defrost, step by step of R106. -/
theorem endDefrost (k : EndKind) : P (s.endDefrost i k) := by
  unfold State.endDefrost
  split
  · exact h
  · next d _ =>
    have ended : P { s.updRecord i fun r => { r with run := none } with
        grants := (s.updRecord i fun r => { r with run := none }).grants.filter fun g => g.record ≠ i } :=
      work.tables _ _ _ _ _ _ _ (work.updRecord h i _)
    refine work.queueAction (work.raiseFor (work.updRecord (work.removeActivity (work.updRecord ?_ i _) i _) i _) i _) i k
    split
    · exact work.discharge ended _ _
    · exact ended

omit i in
theorem cutGrants (f : FeederNo) (n : Nat) : P (State.cutGrants f n s) := by
  induction n generalizing s with
  | zero => exact h
  | succ n ih =>
    unfold State.cutGrants
    split
    · exact h
    · split
      · exact h
      · exact ih (work.endDefrost h _ _)

theorem regrantOn (f : Option FeederNo) : P (s.regrantOn i f) :=
  work.tables _ _ _ _ _ _ _ (work.updRecord h i fun r => { r with run := r.run.map fun d => { d with feeder := f } })

theorem sourceChange : P (s.sourceChange i) := by
  unfold State.sourceChange
  split
  · exact h
  · split
    · exact h
    · split
      · exact work.regrantOn (work.discharge h _ _) i _
      · simp only
        split
        · exact work.regrantOn (work.charge h _ _) i _
        · exact work.endDefrost h i _
      · exact h
      · exact h

theorem terminationTest (x : Readings) : P (s.terminationTest i x) := by
  unfold State.terminationTest
  split
  · exact h
  · split
    · exact work.endDefrost h i _
    · exact h

theorem demandStep : P (s.demandStep i) := work.grantPass (work.evaluateDemand (work.recomputeExcess h i) i)

/-! ## Reports -/

theorem doorStep (door : Door) (previous : Option Door) : P (s.doorStep i door previous) := by
  unfold State.doorStep
  split
  · split
    · exact h
    · exact work.pushActivity (work.updRecord h i _) i _ _
  · split
    · exact h
    · exact work.removeActivity (work.updRecord h i _) i _

theorem frostUpdate (x : Readings) (previous : Option Door) (dt : Nat) : P (s.frostUpdate i x previous dt) :=
  work.updRecord h i _

theorem markSeen : P (s.markSeen i) := work.updRecord h i _

omit h in
/-- An accepted report, from the storing of its readings on. -/
theorem applyReport {r : TrailerRecord} {u : UnitReport} {echo : ModeEcho}
    (stored : P (s.storeReport i u (u.readings echo))) : P (s.applyReport i r u echo) := by
  have estimated := work.fuelUpdate (work.frostUpdate stored i (u.readings echo) r.doorHistory (timeStep r)) i u.source
    (u.readings echo)
  have defrost := work.terminationTest (work.sourceChange (work.doorStep estimated i u.door r.doorHistory) i) i
    (u.readings echo)
  have commands := work.requeueOnEcho (work.matchConfirmation defrost i u.confirmed) i echo
  exact work.markSeen (work.demandStep commands i) i

end KeptByWork

end Sys2Proof.Machine
end

section
/-! # What the Intake FIFO, the Notice Queues and the Check List hold -/

namespace Sys2Proof.Machine

open Sys2Proof

/-! ## Writes of the three -/

theorem State.setDesk_withinCapacity {s : State} (ok : s.withinCapacity) (m : Master) {d : Desk}
    (hd : d.notices.length ≤ Config.noticeDepth) : (s.setDesk m d).withinCapacity := by
  obtain ⟨hfifo, hdesks, hchecks⟩ := ok
  refine ⟨hfifo, fun n => ?_, hchecks⟩
  by_cases hmn : m = n
  · subst hmn
    rwa [State.desk_setDesk_self]
  · rw [State.desk_setDesk_ne _ _ hmn]
    exact hdesks n

/-- A Check List that is no longer than before is within capacity. -/
theorem State.withinCapacity.withChecks {s : State} (ok : s.withinCapacity) {l : List CheckItem}
    (hl : l.length ≤ s.checks.length) : { s with checks := l }.withinCapacity := by
  obtain ⟨hfifo, hdesks, hchecks⟩ := ok
  exact ⟨hfifo, hdesks, hl.trans hchecks⟩

theorem State.withinCapacity.withRecords {s : State} (ok : s.withinCapacity) (v : Vector (Option TrailerRecord) 48) :
    { s with records := v }.withinCapacity := ok

theorem State.withinCapacity.freed {s : State} (ok : s.withinCapacity) (i : RecIdx) (b : BayAddr) (t : Tag) :
    (s.freed i b t).withinCapacity := ok

/-- A FIFO that has lost its head is within capacity. -/
theorem State.dropHead_withinCapacity {s : State} (ok : s.withinCapacity) : s.dropHead.withinCapacity := by
  obtain ⟨hfifo, hdesks, hchecks⟩ := ok
  refine ⟨?_, hdesks, hchecks⟩
  simp only [State.dropHead, List.length_tail]
  omega

/-! ## Notices and check items -/

@[simp] theorem Desk.drive_notices (mode : AttentionMode) (pulse : Bool) (d : Desk) :
    (Desk.drive mode pulse d).notices = d.notices := by
  cases mode <;> rfl

/-- A notice offered to a queue within its depth leaves it within its depth (R159). -/
theorem Desk.length_offer {d : Desk} (hd : d.notices.length ≤ Config.noticeDepth) (mode : AttentionMode) (n : Notice) :
    (d.offer mode n).notices.length ≤ Config.noticeDepth := by
  unfold Desk.offer
  split
  · next room => simpa using room
  · exact hd

theorem State.offerTo_withinCapacity {s : State} (ok : s.withinCapacity) (e : Event) (m : Master) :
    (s.offerTo e m).withinCapacity := by
  unfold State.offerTo
  split
  · exact State.setDesk_withinCapacity ok m (Desk.length_offer (ok.2.1 m) _ _)
  · exact ok

theorem State.notify_withinCapacity {s : State} (ok : s.withinCapacity) (e : Event) : (s.notify e).withinCapacity :=
  State.offerTo_withinCapacity (State.offerTo_withinCapacity (State.offerTo_withinCapacity ok e .ofc) e .cab) e .pat

/-- An item asked for is merged, appended where there is room, or refused (R140). -/
theorem State.tryAdd_withinCapacity {s : State} (ok : s.withinCapacity) (q : CheckAsk) : (s.tryAdd q).1.withinCapacity := by
  unfold State.tryAdd
  split
  · exact ok.withChecks (by simp)
  · split
    · next room =>
      obtain ⟨hfifo, hdesks, -⟩ := ok
      exact ⟨hfifo, hdesks, by simpa using room⟩
    · exact ok

theorem State.raiseListFull_withinCapacity {s : State} (ok : s.withinCapacity) (e : Event) :
    (s.raiseListFull e).withinCapacity := by
  have told := State.notify_withinCapacity ok e
  unfold State.raiseListFull
  simp only
  split
  · exact told
  · exact State.tryAdd_withinCapacity told _

theorem State.askItem_withinCapacity {s : State} (ok : s.withinCapacity) (q : CheckAsk) :
    (s.askItem q).1.withinCapacity := by
  have tried := State.tryAdd_withinCapacity ok q
  unfold State.askItem
  split <;> rename_i heq <;> rw [heq] at tried
  · exact State.raiseListFull_withinCapacity tried _
  · exact tried

theorem State.raise_withinCapacity {s : State} (ok : s.withinCapacity) (e : Event) : (s.raise e).withinCapacity := by
  have told := State.notify_withinCapacity ok e
  unfold State.raise
  split
  · exact State.raiseListFull_withinCapacity ok e
  · simp only
    split
    · exact told
    · exact State.askItem_withinCapacity told _

theorem State.updRecord_withinCapacity {s : State} (ok : s.withinCapacity) (i : RecIdx)
    (f : TrailerRecord → TrailerRecord) : (s.updRecord i f).withinCapacity := by
  unfold State.updRecord
  split <;> exact ok

/-- The capacities are no matter of the records and the Defrost Scheduler, and events keep them. -/
theorem withinCapacity_keptByWork : KeptByWork State.withinCapacity where
  update i f _ _ ok := State.updRecord_withinCapacity ok i f
  tables _ _ _ _ _ _ _ ok := ok
  raise e _ ok := State.raise_withinCapacity ok e

/-! ## Consequences of a tick -/

theorem State.closeWindow_withinCapacity {s : State} (ok : s.withinCapacity) (m : Master) :
    (s.closeWindow m).withinCapacity := by
  unfold State.closeWindow
  simp only
  split
  · exact ok
  · refine State.setDesk_withinCapacity ok m ?_
    rw [Desk.drive_notices]
    exact ok.2.1 m

theorem State.timeoutItem_withinCapacity {s : State} (ok : s.withinCapacity) (i : RecIdx) (k : CheckKind) :
    (s.timeoutItem i k).withinCapacity := by
  unfold State.timeoutItem
  split
  · exact ok
  · next it _ =>
    have written : { s with checks := s.checks.map fun x : CheckItem =>
        if x.serial = it.serial then x.timedOut else x }.withinCapacity :=
      ok.withChecks (by rw [List.length_map])
    simp only
    split
    · exact State.raise_withinCapacity written _
    · exact written

theorem State.roundBay_withinCapacity {s : State} (ok : s.withinCapacity) (p : Fin 8) (plan : Plan) (b : BayAddr) :
    (s.roundBay p plan b).withinCapacity := by
  unfold State.roundBay
  split
  · exact ok
  · split
    · exact ok
    · split
      · exact State.askItem_withinCapacity ok _
      · exact ok

theorem State.testPlan_withinCapacity {s : State} (ok : s.withinCapacity) (p : Fin 8) : (s.testPlan p).withinCapacity := by
  unfold State.testPlan
  simp only
  split
  · exact List.foldlRecOn (motive := State.withinCapacity) _ _ (State.raise_withinCapacity ok _) fun _ ok b _ =>
      State.roundBay_withinCapacity ok p _ b
  · exact ok

theorem State.testPlans_withinCapacity {s : State} (ok : s.withinCapacity) : s.testPlans.withinCapacity := by
  unfold State.testPlans
  split
  · exact List.foldlRecOn (motive := State.withinCapacity) _ _ ok fun _ ok p _ => State.testPlan_withinCapacity ok p
  · exact ok

theorem State.take_withinCapacity {s : State} (ok : s.withinCapacity) (e : TickEvent) : (s.take e).withinCapacity := by
  have work := withinCapacity_keptByWork
  cases e with
  | rollover => exact State.testPlans_withinCapacity ok
  | silent i => exact State.raise_withinCapacity (State.updRecord_withinCapacity ok i _) _
  | doorLong i =>
    show (s.openLong i).withinCapacity
    unfold State.openLong
    split
    · exact ok
    · exact work.raiseFor (work.updRecord ok i _) i _
  | abandon i => exact work.grantPass (work.endDefrost ok i _)
  | timeOut i => exact work.grantPass (work.endDefrost ok i _)
  | waitOver i => exact work.grantPass (work.updRecord ok i _)
  | unconfirmed i => exact work.timeoutCommand ok i
  | checkTimeout i k => exact State.timeoutItem_withinCapacity ok i k
  | windowOver m => exact State.closeWindow_withinCapacity ok m

theorem State.takeAll_withinCapacity (l : List TickEvent) {s : State} (ok : s.withinCapacity) :
    (State.takeAll l s).withinCapacity := by
  induction l generalizing s with
  | nil => exact ok
  | cons e rest ih => exact ih (State.take_withinCapacity (s := { s with due := rest }) ok e)

theorem State.settle_withinCapacity {s : State} (ok : s.withinCapacity) : s.settle.withinCapacity :=
  State.takeAll_withinCapacity s.due ok

theorem State.takeDue_withinCapacity {s : State} (ok : s.withinCapacity) (e : TickEvent) :
    (s.takeDue e).withinCapacity := by
  unfold State.takeDue
  split
  · exact State.take_withinCapacity (s := { s with due := s.due.erase e }) ok e
  · exact ok

theorem State.desk_countTick (s : State) (m : Master) : s.countTick.desk m = (s.desk m).tick := by
  cases m <;> rfl

theorem State.secondTick_withinCapacity {s : State} (ok : s.withinCapacity) : s.secondTick.withinCapacity := by
  unfold State.secondTick
  split
  · obtain ⟨hfifo, hdesks, hchecks⟩ := ok
    refine ⟨by simpa [State.countTick, State.tickRecords] using hfifo, fun m => ?_,
      by simpa [State.countTick] using hchecks⟩
    rw [State.desk_countTick]
    exact hdesks m
  · split <;> exact ok
  · exact ok

/-! ## Requests -/

theorem State.doFetch_withinCapacity {s : State} (ok : s.withinCapacity) (m : Master) : (s.doFetch m).1.withinCapacity := by
  unfold State.doFetch
  simp only
  split
  · exact ok
  · next n rest hnotices =>
    refine State.setDesk_withinCapacity ok m ?_
    have whole := ok.2.1 m
    rw [hnotices, List.length_cons] at whole
    rw [Desk.drive_notices]
    exact (Nat.le_succ _).trans whole

theorem State.setAttention_withinCapacity {s : State} (ok : s.withinCapacity) (m : Master) (mode : AttentionMode) :
    (s.setAttention m mode).withinCapacity := by
  unfold State.setAttention
  split
  · exact ok
  · exact State.setDesk_withinCapacity ok m (ok.2.1 m)

theorem State.doClockTrim_withinCapacity {s : State} (ok : s.withinCapacity) : s.doClockTrim.1.withinCapacity := by
  unfold State.doClockTrim
  split
  · split
    · exact State.testPlans_withinCapacity (s := { s with clock := s.clock.nextMinute }) ok
    · exact ok
  · exact ok

theorem State.doSetBudget_withinCapacity {s : State} (ok : s.withinCapacity) (f : FeederNo) (value : Nat) :
    (s.doSetBudget f value).1.withinCapacity := by
  have work := withinCapacity_keptByWork
  unfold State.doSetBudget
  simp only
  split
  · exact work.grantPass (s := s.setFeeder f _) ok
  · split
    · exact work.grantPass (work.cutGrants (s := s.setFeeder f _) ok f _)
    · exact ok

/-- A request that names no placed trailer keeps the capacities. -/
theorem State.actPlain_withinCapacity {s : State} (ok : s.withinCapacity) (m : Master) (req : Request) :
    (s.actPlain m req).1.withinCapacity := by
  cases req with
  | zoneSet z e =>
    show (s.doZoneSet z e).1.withinCapacity
    rw [State.doZoneSet_eq]
    split <;> exact ok
  | sweepSeen => exact ok.withRecords _
  | clockTrim => exact State.doClockTrim_withinCapacity ok
  | configSet v =>
    cases v with
    | attention m mode => exact State.setAttention_withinCapacity ok m mode
    | _ => exact ok
  | fetchNotice => exact State.doFetch_withinCapacity ok m
  | holdNotices =>
    refine State.setDesk_withinCapacity ok m ?_
    rw [Desk.drive_notices]
    exact ok.2.1 m
  | releaseNotices => exact State.closeWindow_withinCapacity ok m
  | setBudget f value => exact State.doSetBudget_withinCapacity ok f value
  | _ => exact ok

theorem State.doPlace_withinCapacity {s : State} (ok : s.withinCapacity) (t : Tag) (b : BayAddr) (source : Option Source)
    (load : Option Nat) : (s.doPlace t b source load).1.withinCapacity := by
  unfold State.doPlace
  split
  · exact ok
  · split <;> exact ok

theorem State.doRelease_withinCapacity {s : State} (ok : s.withinCapacity) (i : RecIdx) (t : Tag) :
    (s.doRelease i t).1.withinCapacity := by
  have work := withinCapacity_keptByWork
  cases hr : s.record? i with
  | none => rwa [State.doRelease_of_none hr]
  | some r =>
    rw [State.doRelease_of_some hr]
    have scheduled : (s.releaseDefrost i).withinCapacity := by
      unfold State.releaseDefrost
      split
      · exact work.grantPass (work.endDefrost ok i _)
      · exact work.leaveQueue ok i
    have forgotten : ((s.releaseDefrost i).forgetCommands i).withinCapacity :=
      State.updRecord_withinCapacity scheduled i _
    exact (forgotten.withChecks (List.length_filter_le _ _)).freed i r.bay t

theorem State.doDefrostRequest_withinCapacity {s : State} (ok : s.withinCapacity) (m : Master) (i : RecIdx) :
    (s.doDefrostRequest m i).1.withinCapacity := by
  have work := withinCapacity_keptByWork
  unfold State.doDefrostRequest
  split
  · exact ok
  · split
    · exact ok
    · have unlatched : (s.updRecord i fun r => { r with cancelLatch := false }).withinCapacity := work.updRecord ok i _
      refine work.grantPass ?_
      split
      · exact work.raiseFor (work.joinQueue unlatched i _ _ _) i _
      · exact work.rewriteEntry unlatched _

theorem State.doDefrostCancel_withinCapacity {s : State} (ok : s.withinCapacity) (i : RecIdx) :
    (s.doDefrostCancel i).1.withinCapacity := by
  have work := withinCapacity_keptByWork
  unfold State.doDefrostCancel
  simp only
  split
  · exact work.updRecord (work.leaveQueue ok i) i _
  · split
    · exact work.grantPass (work.endDefrost ok i _)
    · exact work.updRecord ok i _
  · exact ok

theorem State.doHoldClear_withinCapacity {s : State} (ok : s.withinCapacity) (i : RecIdx) :
    (s.doHoldClear i).1.withinCapacity := by
  have work := withinCapacity_keptByWork
  have removed := work.removeActivity ok i .serviceHold
  unfold State.doHoldClear
  simp only
  split
  · exact work.grantPass (work.evaluateDemand removed i)
  · exact removed

theorem State.doCheckAdd_withinCapacity {s : State} (ok : s.withinCapacity) (i : RecIdx) (k : CheckKind) (p : Priority) :
    (s.doCheckAdd i k p).1.withinCapacity := by
  unfold State.doCheckAdd
  split
  · exact ok
  · next r _ =>
    have asked := State.askItem_withinCapacity ok
      { tag := r.tag, record := i, kind := k, priority := p, origin := .manual, createdAt := s.now }
    split <;> next heq => rw [heq] at asked; exact asked

theorem State.closeItem_withinCapacity {s : State} (ok : s.withinCapacity) (m : Master) (i : RecIdx) (t : Tag)
    (result : CloseResult) : (s.closeItem m i t result).withinCapacity := by
  have closed : { s with checks := s.checks.filter fun it => !it.isFor t result.kind }.withinCapacity :=
    ok.withChecks (List.length_filter_le _ _)
  cases result with
  | secure => exact closed
  | ajar => exact closed
  | damaged => exact State.raise_withinCapacity closed _
  | fuel level refuelled => exact withinCapacity_keptByWork.postFuel closed i level refuelled

/-- A request on a resolved trailer keeps the capacities. -/
theorem State.actOn_withinCapacity {s : State} (ok : s.withinCapacity) (m : Master) (req : Request) (res : Resolved) :
    (s.actOn m req res).1.withinCapacity := by
  have work := withinCapacity_keptByWork
  cases req with
  | recordGet n =>
    show (s.doRecordGet m res.record).1.withinCapacity
    unfold State.doRecordGet
    split <;> exact ok
  | collect n =>
    show (s.doCollect res.record).1.withinCapacity
    unfold State.doCollect
    split <;> exact ok
  | recordEdit n load override =>
    show (s.doRecordEdit res.record load override).1.withinCapacity
    unfold State.doRecordEdit
    split
    · exact ok
    · split
      · exact ok
      · exact State.updRecord_withinCapacity ok res.record _
  | move t b =>
    rcases s.doMove_cases res.record t b with h | ⟨r, -, -, h⟩ <;>
      · show (s.doMove res.record t b).1.withinCapacity
        rw [h]
        exact ok
  | release t => exact State.doRelease_withinCapacity ok res.record t
  | defrostRequest n => exact State.doDefrostRequest_withinCapacity ok m res.record
  | defrostCancel n => exact State.doDefrostCancel_withinCapacity ok res.record
  | holdSet n =>
    show (s.doHoldSet m res.record).1.withinCapacity
    unfold State.doHoldSet
    split
    · exact ok
    · exact work.pushActivity ok res.record _ _
  | holdClear n =>
    simp only [State.actOn]
    split
    · exact State.doHoldClear_withinCapacity ok res.record
    · exact ok
  | fuelPost n level refuelled => exact work.postFuel ok res.record level refuelled
  | checkAdd n k p => exact State.doCheckAdd_withinCapacity ok res.record k p
  | checkClose t result =>
    simp only [State.actOn]
    split
    · exact State.closeItem_withinCapacity ok m res.record t result
    · exact ok
  | revoke n deferral =>
    simp only [State.actOn]
    split
    · exact work.grantPass (work.endDefrost ok res.record _)
    · exact ok
  | _ => exact ok

theorem State.judge_withinCapacity {s : State} (ok : s.withinCapacity) (m : Master) (req : Request) (n : Subject)
    (res : Resolved) : (s.judge m req n res).1.withinCapacity := by
  unfold State.judge
  split
  · exact State.raise_withinCapacity ok _
  · split
    · exact ok
    · exact State.actOn_withinCapacity ok m req res

/-! ## Lookups, and requests that wait for them -/

theorem State.lookup_withinCapacity {s : State} (ok : s.withinCapacity) (w : Waiter) (t : Tag) :
    (s.lookup w t).1.withinCapacity := by
  obtain ⟨c, e, l, h⟩ := s.lookup_frame w t
  rw [h]
  exact ok

theorem State.goOn_withinCapacity {s : State} (ok : s.withinCapacity) (m : Master) (req : Request) (a : Answer) :
    (s.goOn m req a).1.withinCapacity := by
  unfold State.goOn
  split
  · exact ok
  · split
    · exact ok
    · split
      · exact State.judge_withinCapacity ok m req _ _
      · exact ok
  · split
    · exact State.doPlace_withinCapacity ok _ _ _ _
    · split <;> exact ok

theorem State.lookupFor_withinCapacity {s : State} (ok : s.withinCapacity) (m : Master) (req : Request) (t : Tag) :
    (s.lookupFor m req t).1.withinCapacity :=
  State.goOn_withinCapacity (State.lookup_withinCapacity ok (.master m) t) m req _

theorem State.issueItem_withinCapacity {s : State} (ok : s.withinCapacity) (it : CheckItem) (b : BayAddr) :
    (s.issueItem it b).1.withinCapacity := ok.withChecks (by rw [List.length_map])

theorem State.offerItems_withinCapacity (m : Master) (n : Nat) (considered : List Nat) {s : State} (ok : s.withinCapacity) :
    (s.offerItems m n considered).1.withinCapacity := by
  induction n generalizing considered s with
  | zero => exact ok
  | succ n ih =>
    unfold State.offerItems
    split
    · exact ok
    · next it _ =>
      have looked := State.lookup_withinCapacity ok (.master m) it.tag
      split <;> rename_i heq <;> rw [heq] at looked
      · split
        · exact State.issueItem_withinCapacity looked _ _
        · exact ih _ looked
      · exact ih _ looked
      · exact looked

theorem State.resume_withinCapacity {s : State} (ok : s.withinCapacity) (m : Master) (held : Held) (a : Answer) :
    (s.resume m held a).1.withinCapacity := by
  cases held with
  | request req => exact State.goOn_withinCapacity ok m req a
  | nextCheck considered item =>
    show (s.resumeNextCheck m considered item a).1.withinCapacity
    unfold State.resumeNextCheck
    simp only
    split
    · split
      · exact State.issueItem_withinCapacity ok _ _
      · exact State.offerItems_withinCapacity m _ _ ok
    · exact State.offerItems_withinCapacity m _ _ ok

theorem State.takeRequest_withinCapacity {s : State} (ok : s.withinCapacity) (m : Master) (req : Request) :
    (s.takeRequest m req).1.withinCapacity := by
  unfold State.takeRequest
  split
  · unfold State.startNextCheck
    split
    · exact ok
    · exact State.offerItems_withinCapacity m _ _ ok
  · split
    · exact State.lookupFor_withinCapacity ok m _ _
    · exact ok
  · split
    · exact State.actPlain_withinCapacity ok m req
    · exact State.lookupFor_withinCapacity ok m req _
    · split
      · exact ok
      · exact State.judge_withinCapacity ok m req _ _

theorem State.answer_withinCapacity {m : Master} {kind : Byte} {r : State × Option MasterReply}
    (ok : r.1.withinCapacity) : (State.answer m kind r).withinCapacity := by
  unfold State.answer
  split <;> exact ok

/-! ## The Report Intake -/

theorem State.answerIntake_withinCapacity {s : State} (ok : s.withinCapacity) (a : Answer) :
    (s.answerIntake a).withinCapacity := by
  unfold State.answerIntake
  split
  · exact ok
  · exact State.dropHead_withinCapacity (State.raise_withinCapacity ok _)
  · exact ok
  · exact ok

theorem State.takeHead_withinCapacity {s : State} (ok : s.withinCapacity) : s.takeHead.withinCapacity := by
  unfold State.takeHead
  split
  · split
    · exact State.dropHead_withinCapacity ok
    · exact State.answerIntake_withinCapacity (State.lookup_withinCapacity ok _ _) _
  · exact ok

theorem State.applyHead_withinCapacity {s : State} (ok : s.withinCapacity) : s.applyHead.withinCapacity := by
  unfold State.applyHead
  split
  · next i u rest _ _ =>
    split
    · exact State.dropHead_withinCapacity (State.raise_withinCapacity ok _)
    · split
      · exact State.dropHead_withinCapacity (State.raise_withinCapacity ok _)
      · split
        · exact State.dropHead_withinCapacity ok
        · split
          · exact State.dropHead_withinCapacity ok
          · exact State.dropHead_withinCapacity
              (withinCapacity_keptByWork.applyReport i (State.updRecord_withinCapacity ok i _))
  · exact ok

/-- A report that arrives joins the FIFO where there is room (R41, R42). -/
theorem State.arrive_withinCapacity {s : State} (ok : s.withinCapacity) (u : UnitReport) :
    (s.arrive u).1.withinCapacity := by
  unfold State.arrive
  split
  · next room =>
    obtain ⟨-, hdesks, hchecks⟩ := ok
    exact ⟨by simpa using room, hdesks, hchecks⟩
  · exact State.raise_withinCapacity ok _

/-! ## Frames and searches -/

theorem State.takeUnit_withinCapacity {s : State} (ok : s.withinCapacity) (k : Kind) (body : List Byte) :
    (s.takeUnit k body).withinCapacity := by
  unfold State.takeUnit
  split
  · exact withinCapacity_keptByWork.sendHead (State.arrive_withinCapacity ok _)
  · exact withinCapacity_keptByWork.sendHead ok

theorem State.judgeFrame_withinCapacity {s : State} (ok : s.withinCapacity) (p : PortId) (kind : Byte) (body : List Byte) :
    (s.judgeFrame p kind body).withinCapacity := by
  unfold State.judgeFrame
  split
  · exact ok
  · split
    · exact ok
    · split
      · exact ok
      · split
        · exact State.takeUnit_withinCapacity ok _ body
        · split
          · exact ok
          · exact State.answer_withinCapacity (State.takeRequest_withinCapacity ok _ _)

theorem State.receiveFrame_withinCapacity {s : State} (ok : s.withinCapacity) (p : PortId) (kind : Byte)
    (body : List Byte) : (State.receiveFrame p kind body s).withinCapacity := by
  by_cases hsupply : s.supply = .inService
  · have received : (s.received p).withinCapacity := ok
    rw [receiveFrame_inService hsupply]
    split
    · exact State.judgeFrame_withinCapacity received p kind body
    · unfold State.oweBusy
      split <;> exact received
  · rwa [receiveFrame_outOfService hsupply]

theorem State.completeReply_withinCapacity {s : State} (ok : s.withinCapacity) (p : PortId) :
    (s.completeReply p).withinCapacity := by
  unfold State.completeReply
  simp only
  split
  · exact ok
  · split
    · split <;> exact ok
    all_goals exact ok

theorem State.deliver_withinCapacity {s : State} (ok : s.withinCapacity) (w : Waiter) (a : Answer) :
    (s.deliver w a).withinCapacity := by
  unfold State.deliver
  split
  · exact State.answerIntake_withinCapacity ok a
  · split
    · exact State.answer_withinCapacity (State.resume_withinCapacity ok _ _ a)
    all_goals exact ok

theorem State.completeSearch_withinCapacity {s : State} (ok : s.withinCapacity) : s.completeSearch.withinCapacity := by
  unfold State.completeSearch
  split
  · exact ok
  · next q _ =>
    obtain ⟨c, h⟩ := State.searchResult_frame q.tag s
    have found : (s.searchResult q.tag).1.withinCapacity := by
      rw [h]
      exact ok
    exact State.deliver_withinCapacity found q.waiter _

/-! ## Supplies -/

theorem cold_withinCapacity {s : State} (hfifo : s.fifo = []) (hdesks : s.desks = .all Desk.cold)
    (hchecks : s.checks.length ≤ Config.checkListSize) : s.withinCapacity := by
  refine ⟨by rw [hfifo]; exact Nat.zero_le _, fun m => ?_, hchecks⟩
  rw [State.desk, hdesks]
  cases m <;> exact Nat.zero_le _

theorem State.warmRestart_withinCapacity {s : State} (ok : s.withinCapacity) (cause : RestartCause) (strap : Bool) :
    (s.warmRestart cause strap).withinCapacity := by
  refine cold_withinCapacity rfl rfl ?_
  rw [State.warmRestart_checks, List.length_map]
  exact ok.2.2

theorem State.failMains_withinCapacity {s : State} (ok : s.withinCapacity) : s.failMains.withinCapacity := by
  unfold State.failMains
  split
  · obtain ⟨-, hdesks, hchecks⟩ := ok
    refine ⟨Nat.zero_le _, fun m => ?_, hchecks⟩
    cases m
    · exact hdesks .ofc
    · exact hdesks .cab
    · exact hdesks .pat
  · exact ok
  · exact ok

theorem State.returnMains_withinCapacity {s : State} (ok : s.withinCapacity) (strap : Bool) :
    (s.returnMains strap).withinCapacity := by
  unfold State.returnMains
  split
  · split
    · exact cold_withinCapacity rfl rfl (Nat.zero_le _)
    · exact State.warmRestart_withinCapacity ok _ strap
  · exact ok
  · exact ok

theorem State.yardRestart_withinCapacity {s : State} (ok : s.withinCapacity) (strap : Bool) :
    (s.yardRestart strap).withinCapacity := by
  unfold State.yardRestart
  split
  · exact State.warmRestart_withinCapacity ok _ strap
  · exact ok

theorem State.endPulse_withinCapacity {s : State} (ok : s.withinCapacity) (m : Master) : (s.endPulse m).withinCapacity := by
  unfold State.endPulse
  split
  · exact ok
  · exact State.setDesk_withinCapacity ok m (ok.2.1 m)

theorem State.whenInService_withinCapacity {s : State} (ok : s.withinCapacity) {f : State → State}
    (hf : (f s).withinCapacity) : (s.whenInService f).withinCapacity := by
  unfold State.whenInService
  split
  · exact hf
  · exact ok

/-! ## Every command -/

/-- Every command keeps the capacities. -/
theorem exec_withinCapacity {c : Instr} {s t : State} (ok : s.withinCapacity) (h : exec c s = .next t) :
    t.withinCapacity := by
  have settled := State.settle_withinCapacity ok
  cases c with
  | unitReport p body | poll p body | unknownKind p kind body | portBusy p kind body | zoneSet p body | zoneGet p body
  | baySet p body | place p body | move p body | release p body | recordGet p body | recordEdit p body | collect p body
  | scanChanged p body | sweepSeen p body | flushTags p body | clockSet p body | clockTrim p body | clockGet p body
  | planSet p body | planGet p body | linkSet p body | linkGet p body | configSet p body | configGet p body
  | defrostRequest p body | defrostCancel p body | holdSet p body | holdClear p body | fuelPost p body | checkAdd p body
  | checkClose p body | checkList p body | queueGet p body | feederGet p body | fetchNotice p body | holdNotices p body
  | releaseNotices p body | statusGet p body | yardRestart p body | setBudget p body | revoke p body | nextCheck p body =>
    cases h
    exact State.receiveFrame_withinCapacity settled p _ body
  | frameCheckFail p | interbyteTimeout p | syncByte p =>
    cases h
    unfold State.setReceiver
    split <;> exact settled
  | bodyLengthAbove120 p length =>
    cases h
    unfold State.setReceiver
    split
    · split <;> exact settled
    · exact settled
  | replyComplete p =>
    cases h
    exact State.whenInService_withinCapacity settled (State.completeReply_withinCapacity settled p)
  | searchComplete =>
    cases h
    exact State.whenInService_withinCapacity settled (State.completeSearch_withinCapacity settled)
  | takeHead =>
    cases h
    exact State.whenInService_withinCapacity settled (State.takeHead_withinCapacity settled)
  | reportApplication =>
    cases h
    exact State.whenInService_withinCapacity settled (State.applyHead_withinCapacity settled)
  | pulseEnd m =>
    cases h
    exact State.whenInService_withinCapacity settled (State.endPulse_withinCapacity settled m)
  | minuteRollover | unitSilent i | doorOpenLong i | abandoned i | timedOut i | defrostNotBeforeZero i | cmdUnconfirmed i
  | checkTimeout i k | suppressionWindowExpiry m =>
    cases h
    exact State.takeDue_withinCapacity ok _
  | secondTick =>
    cases h
    exact State.secondTick_withinCapacity settled
  | restartAct strap =>
    cases h
    exact State.yardRestart_withinCapacity settled strap
  | supplyApplied =>
    cases h
    unfold State.applySupply
    split <;> exact settled
  | mfailAsserted =>
    cases h
    exact State.failMains_withinCapacity settled
  | mfailReleased strap =>
    cases h
    exact State.returnMains_withinCapacity settled strap
  | supplyLoss =>
    cases h
    exact cold_withinCapacity rfl rfl (Nat.zero_le _)

/-- Settles O55, by the command at the front of the queue. -/
theorem capacityIsKept : Obligations.CapacityIsKept := by
  intro s t ok hstep
  unfold step at hstep
  split at hstep
  · cases hstep
    exact ok
  · next c rest _ => exact exec_withinCapacity (s := { s with pending := rest }) ok hstep

end Sys2Proof.Machine
end

section
/-! # The second tick, and the taking of what it brings about -/

namespace Sys2Proof.Machine

open Sys2Proof

/-! ## Settling -/

theorem State.takeAll_due (l : List TickEvent) (s : State) : (State.takeAll l s).due = [] := by
  induction l generalizing s with
  | nil => rfl
  | cons e rest ih => exact ih _

theorem State.settle_due (s : State) : s.settle.due = [] := State.takeAll_due s.due s

theorem State.settle_settle (s : State) : s.settle.settle = s.settle := State.settle_of_nothing_due s.settle_due

/-- The first consequence due is taken by settling, and then the others. -/
theorem State.settle_of_due {s : State} {e : TickEvent} {rest : List TickEvent} (h : s.due = e :: rest) :
    s.settle = State.takeAll rest (State.take e { s with due := rest }) := by
  rw [State.settle, h, State.takeAll]

/-- The row of a consequence takes it where it is due. -/
theorem exec_command (e : TickEvent) (s : State) : exec e.command s = .next (s.takeDue e) := by cases e <;> rfl

theorem State.takeDue_of_mem {s : State} {e : TickEvent} (h : e ∈ s.due) :
    s.takeDue e = State.take e { s with due := s.due.erase e } := by
  rw [State.takeDue, if_pos (List.contains_iff_mem.mpr h)]

/-- A consequence that is due is taken by its row, with the others left due. -/
theorem exec_command_of_mem {s : State} {e : TickEvent} (h : e ∈ s.due) :
    exec e.command s = .next (State.take e { s with due := s.due.erase e }) := by
  rw [exec_command, State.takeDue_of_mem h]

/-- Every command but a consequence first settles what is due. -/
theorem exec_settle {c : Instr} (h : isConsequence c = false) (s : State) : exec c s = exec c s.settle := by
  have settled := s.settle_settle.symm
  cases c with
  | unitReport p body | poll p body | unknownKind p kind body | portBusy p kind body | zoneSet p body | zoneGet p body
  | baySet p body | place p body | move p body | release p body | recordGet p body | recordEdit p body | collect p body
  | scanChanged p body | sweepSeen p body | flushTags p body | clockSet p body | clockTrim p body | clockGet p body
  | planSet p body | planGet p body | linkSet p body | linkGet p body | configSet p body | configGet p body
  | defrostRequest p body | defrostCancel p body | holdSet p body | holdClear p body | fuelPost p body | checkAdd p body
  | checkClose p body | checkList p body | queueGet p body | feederGet p body | fetchNotice p body | holdNotices p body
  | releaseNotices p body | statusGet p body | yardRestart p body | setBudget p body | revoke p body | nextCheck p body =>
    exact congrArg (fun t => Host.Outcome.next (State.receiveFrame p _ body t)) settled
  | frameCheckFail p | interbyteTimeout p | syncByte p =>
    exact congrArg (fun t => Host.Outcome.next (State.setReceiver p _ t)) settled
  | bodyLengthAbove120 p length =>
    exact congrArg (fun t : State => Host.Outcome.next
      (if Config.maxBody < length.toNat then State.setReceiver p .hunting t else t)) settled
  | replyComplete | searchComplete | takeHead | reportApplication | pulseEnd =>
    exact congrArg (fun t => Host.Outcome.next (State.whenInService t _)) settled
  | secondTick => exact congrArg (fun t => Host.Outcome.next (State.secondTick t)) settled
  | restartAct strap => exact congrArg (fun t => Host.Outcome.next (State.yardRestart strap t)) settled
  | supplyApplied => exact congrArg (fun t => Host.Outcome.next (State.applySupply t)) settled
  | mfailAsserted => exact congrArg (fun t => Host.Outcome.next (State.failMains t)) settled
  | mfailReleased strap => exact congrArg (fun t => Host.Outcome.next (State.returnMains strap t)) settled
  | supplyLoss => exact congrArg (fun t => Host.Outcome.next (State.loseSupply t)) settled
  | minuteRollover | unitSilent | doorOpenLong | abandoned | timedOut | defrostNotBeforeZero | cmdUnconfirmed
  | checkTimeout | suppressionWindowExpiry => cases h

/-- Settles O2: settling takes the list in order, its head as the head's row does. -/
theorem consequencesSettleFirst : Obligations.ConsequencesSettleFirst := by
  refine ⟨State.settle_due, fun s => State.settle_of_nothing_due, fun e rest s h => ?_, fun c s hc => exec_settle hc s⟩
  have head : e ∈ s.due := by rw [h]; exact List.mem_cons_self
  have left : s.due.erase e = rest := by rw [h, List.erase_cons_head]
  refine ⟨_, exec_command_of_mem head, ?_, ?_⟩
  · rw [State.take_due, left]
  · rw [State.settle_of_due h, left, State.settle, State.take_due]

/-! ## What a tick counts -/

theorem exec_secondTick {s : State} (hsupply : s.supply = .inService) (hdue : s.due = []) :
    exec .secondTick s = .next s.countTick := by
  show Host.Outcome.next s.settle.secondTick = _
  rw [State.settle_of_nothing_due hdue, State.secondTick, hsupply]

theorem State.countTick_frame (s : State) :
    s.countTick = { s with clock := s.clock.tick, records := s.countTick.records, checks := s.countTick.checks
                           desks := s.countTick.desks, due := s.countTick.due } := by
  simp only [State.countTick, State.tickRecords]

theorem State.record?_countTick (s : State) (i : RecIdx) :
    s.countTick.record? i = (s.record? i).map TrailerRecord.tick := by
  simp [State.countTick, State.tickRecords, State.record?]

theorem State.record?_countTick_eq_some {s : State} {i : RecIdx} {r : TrailerRecord} :
    s.countTick.record? i = some r ↔ ∃ old, s.record? i = some old ∧ old.tick = r := by
  rw [State.record?_countTick, Option.map_eq_some_iff]

theorem State.countTick_checks (s : State) : s.countTick.checks = s.checks.map CheckItem.tick := rfl

theorem State.countTick_due (s : State) : s.countTick.due = s.dueOnTick := rfl

/-- A running defrost counts its heating seconds, a paused one its paused seconds, and no other either (R86, R104). -/
theorem RunData.tick_of_defrostState (d : RunData) (r : TrailerRecord) :
    d.tick r.defrostState =
      if r.effective = .defrost then { d with heating := d.heating + 1 }
      else if r.holds .defrost then { d with paused := d.paused + 1 } else d := by
  unfold TrailerRecord.defrostState
  split
  · rfl
  · split <;> rfl

/-- Settles O46: every count of `State.countTick`, and the frame. -/
theorem secondTickCounts : Obligations.SecondTickCounts := by
  intro s hsupply hdue
  refine ⟨s.countTick, exec_secondTick hsupply hdue, s.countTick_frame, fun i => ?_, ?_, s.desk_countTick⟩
  · rw [State.record?_countTick]
    congr 1
    funext r
    have fuelAge : (if r.fuelRef.isSome then bump r.fuelAge else r.fuelAge) =
        if r.fuelRef = none then r.fuelAge else bump r.fuelAge := by
      cases r.fuelRef <;> rfl
    have slot : ∀ x : Slot, x.tick = match x with
        | .sent f => .sent { f with seconds := f.seconds + 1 }
        | .sentNext f c => .sentNext { f with seconds := f.seconds + 1 } c
        | other => other := by
      intro x
      cases x <;> rfl
    rw [TrailerRecord.tick, fuelAge, slot]
    simp only [RunData.tick_of_defrostState]
    rfl
  · rw [State.countTick_checks]
    congr 1
    funext it
    cases h : it.state <;> simp only [CheckItem.tick, h]

/-! ## What a tick brings about -/

theorem any_decide_iff {α : Type} {x : Option α} {p : α → Prop} [DecidablePred p] :
    (x.any fun a => decide (p a)) = true ↔ ∃ a, x = some a ∧ p a := by
  simp [Option.any_eq_true]

theorem mem_listedIf {c : Bool} {e x : TickEvent} : x ∈ listedIf c e ↔ c = true ∧ x = e := by
  cases c <;> simp [listedIf]

theorem TrailerRecord.defrostState_eq_running {r : TrailerRecord} :
    r.defrostState = .running ↔ r.effective = .defrost := by
  unfold TrailerRecord.defrostState
  split
  · next h => simp [h]
  · next h => split <;> simp [h]

theorem TrailerRecord.defrostState_eq_paused {r : TrailerRecord} :
    r.defrostState = .paused ↔ r.holds .defrost = true ∧ r.effective ≠ .defrost := by
  unfold TrailerRecord.defrostState
  split
  · next h => simp [h]
  · next h => split <;> simp_all

/-- What a tick brings about for a placed record, each with its condition. -/
theorem State.mem_dueAt {s : State} {i : RecIdx} {e : TickEvent} :
    e ∈ s.dueAt i ↔ ∃ r, s.record? i = some r ∧ e ∈ dueOf (s.zoneOf r) i r r.tick := by
  unfold State.dueAt
  split <;> next h => simp [h]

/-- What a tick brings about is the rollover, or concerns one record, one ISSUED item, or one window. -/
theorem State.mem_dueOnTick {s : State} {e : TickEvent} :
    e ∈ s.dueOnTick ↔
      (s.clock.aboutToRoll = true ∧ e = .rollover) ∨ (∃ i, e ∈ s.dueAt i) ∨
      (∃ it ∈ s.countTick.checks, it.over s.settings.checkTimeout = true ∧ e = .checkTimeout it.record it.kind) ∨
      ∃ m, ((s.countTick.desk m).window.any fun n => Config.windowSeconds ≤ n) = true ∧ e = .windowOver m := by
  have records : e ∈ allRecords.flatMap s.dueAt ↔ ∃ i, e ∈ s.dueAt i := by
    simp [allRecords]
  have items : e ∈ ((s.checks.map CheckItem.tick).filter (CheckItem.over s.settings.checkTimeout)).map
      (fun it => TickEvent.checkTimeout it.record it.kind) ↔
      ∃ it ∈ s.countTick.checks, it.over s.settings.checkTimeout = true ∧ e = .checkTimeout it.record it.kind := by
    rw [State.countTick_checks, List.mem_map]
    simp only [List.mem_filter, and_assoc, @eq_comm _ e]
  have windows : (e ∈ [Master.ofc, .cab, .pat].flatMap fun m =>
      listedIf ((s.desk m).tick.window.any fun n => Config.windowSeconds ≤ n) (.windowOver m)) ↔
      ∃ m, ((s.countTick.desk m).window.any fun n => Config.windowSeconds ≤ n) = true ∧ e = .windowOver m := by
    simp only [List.mem_flatMap, mem_listedIf, State.desk_countTick]
    refine exists_congr fun m => and_iff_right ?_
    cases m <;> decide
  rw [State.dueOnTick, List.mem_append, List.mem_append, List.mem_append, mem_listedIf, records, items, windows, or_assoc,
    or_assoc]

/-- A consequence that only the tick of one record can bring about is due where that record's tick brings it about. -/
theorem State.mem_dueOnTick_record {s : State} {i : RecIdx} {e : TickEvent}
    {cond : Zone → TrailerRecord → TrailerRecord → Prop}
    (hrecord : ∀ j z old r, e ∈ dueOf z j old r ↔ cond z old r ∧ i = j) (hroll : e ≠ .rollover := by nofun)
    (hitem : ∀ j k, e ≠ .checkTimeout j k := by nofun) (hwindow : ∀ m, e ≠ .windowOver m := by nofun) :
    e ∈ s.dueOnTick ↔ ∃ old, s.record? i = some old ∧ cond (s.zoneOf old) old old.tick := by
  simp [State.mem_dueOnTick, State.mem_dueAt, hrecord, hroll, hitem, hwindow, ← and_assoc]

theorem State.silent_mem_dueOnTick {s : State} {i : RecIdx} :
    .silent i ∈ s.dueOnTick ↔ ∃ r, s.record? i = some r ∧ r.reportAge = 599 ∧ r.unitState ≠ .stale :=
  State.mem_dueOnTick_record (cond := fun _ old r => old.reportAge = 599 ∧ r.unitState ≠ .stale) fun j z old r => by
    simp [dueOf, mem_listedIf, Config.staleAge]

theorem State.doorLong_mem_dueOnTick {s : State} {i : RecIdx} :
    .doorLong i ∈ s.dueOnTick ↔ ∃ old, s.record? i = some old ∧
      (∃ n, old.tick.doorOpenSince = some n ∧ (s.zoneOf old).doorAlarm * 60 ≤ n) ∧ old.tick.alarmMark = false :=
  State.mem_dueOnTick_record
    (cond := fun z _ r => (∃ n, r.doorOpenSince = some n ∧ z.doorAlarm * 60 ≤ n) ∧ r.alarmMark = false)
    fun j z old r => by simp [dueOf, mem_listedIf, any_decide_iff, and_assoc]

theorem State.abandon_mem_dueOnTick {s : State} {i : RecIdx} :
    .abandon i ∈ s.dueOnTick ↔ ∃ old, s.record? i = some old ∧
      (old.tick.holds .defrost = true ∧ old.tick.effective ≠ .defrost) ∧
      ∃ d, old.tick.run = some d ∧ (s.zoneOf old).holdLimit * 60 ≤ d.paused :=
  State.mem_dueOnTick_record
    (cond := fun z _ r => (r.holds .defrost = true ∧ r.effective ≠ .defrost) ∧
      ∃ d, r.run = some d ∧ z.holdLimit * 60 ≤ d.paused) fun j z old r => by
        simp [dueOf, mem_listedIf, any_decide_iff, TrailerRecord.defrostState_eq_paused]

theorem State.timeOut_mem_dueOnTick {s : State} {i : RecIdx} :
    .timeOut i ∈ s.dueOnTick ↔ ∃ old, s.record? i = some old ∧ old.tick.effective = .defrost ∧
      ∃ d, old.tick.run = some d ∧ (s.zoneOf old).defrostMax * 60 ≤ d.heating :=
  State.mem_dueOnTick_record
    (cond := fun z _ r => r.effective = .defrost ∧ ∃ d, r.run = some d ∧ z.defrostMax * 60 ≤ d.heating)
    fun j z old r => by simp [dueOf, mem_listedIf, any_decide_iff, TrailerRecord.defrostState_eq_running]

theorem State.waitOver_mem_dueOnTick {s : State} {i : RecIdx} :
    .waitOver i ∈ s.dueOnTick ↔ ∃ r, s.record? i = some r ∧ r.notBefore = 1 :=
  State.mem_dueOnTick_record (cond := fun _ old _ => old.notBefore = 1) fun j z old r => by simp [dueOf, mem_listedIf]

theorem State.unconfirmed_mem_dueOnTick {s : State} {i : RecIdx} :
    .unconfirmed i ∈ s.dueOnTick ↔ ∃ old, s.record? i = some old ∧
      ∃ f, old.tick.slot.flight = some f ∧ 90 ≤ f.seconds :=
  State.mem_dueOnTick_record (cond := fun _ _ r => ∃ f, r.slot.flight = some f ∧ Config.commandTimeout ≤ f.seconds)
    fun j z old r => by simp [dueOf, mem_listedIf, any_decide_iff]

/-- An item's check timeout is over where it is ISSUED and its seconds have reached the limit. -/
theorem CheckItem.over_iff {limit : Nat} {it : CheckItem} :
    it.over limit = true ↔ ∃ t n, it.state = .issued t n ∧ limit * 60 ≤ n := by
  unfold CheckItem.over
  split <;> next h => simp [h]

theorem State.checkTimeout_mem_dueOnTick {s : State} {i : RecIdx} {k : CheckKind} :
    .checkTimeout i k ∈ s.dueOnTick ↔ ∃ it ∈ s.countTick.checks,
      (∃ t n, it.state = .issued t n ∧ s.settings.checkTimeout * 60 ≤ n) ∧ i = it.record ∧ k = it.kind := by
  simp [State.mem_dueOnTick, State.mem_dueAt, dueOf, mem_listedIf, CheckItem.over_iff]

theorem State.windowOver_mem_dueOnTick {s : State} {m : Master} :
    .windowOver m ∈ s.dueOnTick ↔ ∃ n, (s.countTick.desk m).window = some n ∧ Config.windowSeconds ≤ n := by
  simp [State.mem_dueOnTick, State.mem_dueAt, dueOf, mem_listedIf, any_decide_iff]

/-- Settles O47: each condition of `State.dueOnTick`, read of the part as the tick leaves it. -/
theorem secondTickBringsAbout : Obligations.SecondTickBringsAbout := by
  intro i k m s t hsupply hdue hstep
  rw [exec_secondTick hsupply hdue] at hstep
  cases hstep
  rw [State.countTick_due]
  refine ⟨?_, State.silent_mem_dueOnTick, ?_, ?_, ?_, State.waitOver_mem_dueOnTick, ?_, ?_,
    State.windowOver_mem_dueOnTick⟩
  · simp [State.mem_dueOnTick, State.mem_dueAt, dueOf, mem_listedIf, Clock.aboutToRoll]
  · rw [State.doorLong_mem_dueOnTick]
    constructor
    · rintro ⟨old, hold, ⟨n, hn, hlong⟩, hmark⟩
      exact ⟨old.tick, _, State.record?_countTick_eq_some.mpr ⟨old, hold, rfl⟩, hn, hlong, hmark⟩
    · rintro ⟨r, _, hr, hn, hlong, hmark⟩
      obtain ⟨old, hold, rfl⟩ := State.record?_countTick_eq_some.mp hr
      exact ⟨old, hold, ⟨_, hn, hlong⟩, hmark⟩
  · rw [State.abandon_mem_dueOnTick]
    constructor
    · rintro ⟨old, hold, ⟨hholds, hpaused⟩, d, hd, hlong⟩
      exact ⟨old.tick, _, State.record?_countTick_eq_some.mpr ⟨old, hold, rfl⟩, hd, hholds, hpaused, hlong⟩
    · rintro ⟨r, _, hr, hd, hholds, hpaused, hlong⟩
      obtain ⟨old, hold, rfl⟩ := State.record?_countTick_eq_some.mp hr
      exact ⟨old, hold, ⟨hholds, hpaused⟩, _, hd, hlong⟩
  · rw [State.timeOut_mem_dueOnTick]
    constructor
    · rintro ⟨old, hold, hruns, d, hd, hlong⟩
      exact ⟨old.tick, _, State.record?_countTick_eq_some.mpr ⟨old, hold, rfl⟩, hd, hruns, hlong⟩
    · rintro ⟨r, _, hr, hd, hruns, hlong⟩
      obtain ⟨old, hold, rfl⟩ := State.record?_countTick_eq_some.mp hr
      exact ⟨old, hold, hruns, _, hd, hlong⟩
  · rw [State.unconfirmed_mem_dueOnTick]
    simp [State.record?_countTick_eq_some]
  · rw [State.checkTimeout_mem_dueOnTick]
    constructor
    · rintro ⟨it, hit, ⟨t, n, hstate, hn⟩, rfl, rfl⟩
      exact ⟨it, t, n, hit, rfl, rfl, hstate, hn⟩
    · rintro ⟨it, t, n, hit, rfl, rfl, hstate, hn⟩
      exact ⟨it, hit, ⟨t, n, hstate, hn⟩, rfl, rfl⟩

end Sys2Proof.Machine
end

section
/-! # Unit reports and replies as bytes -/

namespace Sys2Proof.Machine

open Sys2Proof

/-! ## Unit reports -/

/-- The flags byte of a unit report reads back bit by bit (Table 10-2). -/
theorem getLsbD_flags (diesel isOpen hasHumidity hasFuel hasConfirmation : Bool) :
    let flags := byteOf (diesel.toNat + 2 * isOpen.toNat + 4 * hasHumidity.toNat + 8 * hasFuel.toNat +
      16 * hasConfirmation.toNat)
    flags.getLsbD 0 = diesel ∧ flags.getLsbD 1 = isOpen ∧ flags.getLsbD 2 = hasHumidity ∧ flags.getLsbD 3 = hasFuel ∧
      flags.getLsbD 4 = hasConfirmation := by
  revert diesel isOpen hasHumidity hasFuel hasConfirmation
  decide

/-- The two bytes of a signed word read back as its value. -/
theorem signed16_toInt (w : BitVec 16) :
    signed16 ((BitVec.ofInt 16 w.toInt).extractLsb' 8 8) ((BitVec.ofInt 16 w.toInt).extractLsb' 0 8) = w.toInt := by
  have lo : -2 ^ 15 ≤ w.toInt := BitVec.le_toInt w
  have hi : w.toInt < 2 ^ 15 := BitVec.toInt_lt
  exact signed16_signedBytes (by omega) (by omega)

theorem parse_unitReport {t : Tag} {sequence echo humidity fuel confirmation : Byte}
    {diesel isOpen hasHumidity hasFuel hasConfirmation : Bool} {returnAir coil ambient : BitVec 16} {stamp : YardTime} :
    UnitReport.parse stamp
      (tagBytes t ++ [sequence, byteOf (diesel.toNat + 2 * isOpen.toNat + 4 * hasHumidity.toNat + 8 * hasFuel.toNat +
          16 * hasConfirmation.toNat), echo] ++
        signedBytes returnAir.toInt ++ signedBytes coil.toInt ++ signedBytes ambient.toInt ++
        [humidity, fuel, confirmation]) =
      some { tag := t, sequence := sequence, source := if diesel then .diesel else .shore,
             door := if isOpen then .opened else .closed, echoCode := echo, returnAir := returnAir.toInt,
             coil := coil.toInt, ambient := ambient.toInt,
             humidity := if hasHumidity then some humidity.toNat else none,
             fuel := if hasFuel then some fuel.toNat else none,
             confirmation := if hasConfirmation then some confirmation.toNat else none, arrival := stamp } := by
  obtain ⟨hdiesel, hopen, hhumidity, hfuel, hconfirmation⟩ :=
    getLsbD_flags diesel isOpen hasHumidity hasFuel hasConfirmation
  simp only [tagBytes, signedBytes, List.cons_append, List.nil_append, UnitReport.parse, tagOf_tagBytes, signed16_toInt,
    hdiesel, hopen, hhumidity, hfuel, hconfirmation]

/-! ## Replies -/

theorem State.sending_of_replying {s : State} {p : PortId} {kind : Byte} {body : ReplyBody}
    (h : (s.port p).activity = .replying ⟨kind, body⟩) : s.sending p = some (frameBytes kind body.bytes) := by
  rw [State.sending, h]

theorem State.sending_of_answeringBusy {s : State} {p : PortId} {kind : Byte}
    (h : (s.port p).activity = .answeringBusy kind) :
    s.sending p = some (frameBytes kind (if p = .unt then [8, 0, 0, 0, 0, 0, 0, 0] else [8])) := by
  rw [State.sending, h]
  cases p <;> rfl

theorem Cause.length_bytes (c : Cause) : c.bytes.length = 8 := by simp [Cause.bytes]

/-- Settles O5: the report's bytes read back field by field, and each form of a reply is its definition's. -/
theorem reportsAndRepliesAreLaidOut : Obligations.ReportsAndRepliesAreLaidOut := by
  refine ⟨fun _ _ _ _ _ _ _ _ _ _ _ _ _ _ _ => parse_unitReport,
    fun p kind s => ⟨fun body => State.sending_of_replying, State.sending_of_answeringBusy⟩,
    fun c f => ⟨rfl, rfl, c.length_bytes, rfl, rfl, rfl, rfl, rfl, rfl, rfl⟩, fun status c => ⟨rfl, rfl⟩,
    fun field n f => ⟨?_, ?_⟩⟩
  · simp [optional, ReplyField.bytes]
  · simp [optional, ReplyField.bytes]

end Sys2Proof.Machine
end

section
/-! # Changes of one record, and the consequences of a tick for it -/

namespace Sys2Proof.Machine

open Sys2Proof

/-! ## The changed flag -/

/-- A change of a field of Table 1-2 sets the changed flag (R21). -/
theorem TrailerRecord.marking_of_ne {old new : TrailerRecord} (h : new.tracked ≠ old.tracked) :
    old.marking new = { new with changed := true } := if_neg h

/-- A change of what the changed flag does not follow leaves it (R21). -/
theorem TrailerRecord.marking_of_eq {old new : TrailerRecord} (h : new.tracked = old.tracked) :
    old.marking new = new := if_pos h

theorem TrailerRecord.marking_slot {r : TrailerRecord} {slot : Slot} (h : slot ≠ r.slot) :
    r.marking { r with slot := slot } = { r with slot := slot, changed := true } :=
  TrailerRecord.marking_of_ne fun same => h (congrArg TrailerRecord.slot same)

/-! ## What an event leaves -/

@[simp] theorem State.record?_raise (e : Event) (s : State) (i : RecIdx) : (s.raise e).record? i = s.record? i := by
  have records : (s.raise e).outsideNotices.record? i = s.outsideNotices.record? i :=
    congrArg (State.record? · i) (s.raise_frame e)
  exact records

@[simp] theorem State.downlink_raise (e : Event) (s : State) : (s.raise e).downlink = s.downlink := by
  have downlink : (s.raise e).outsideNotices.downlink = s.outsideNotices.downlink :=
    congrArg State.downlink (s.raise_frame e)
  exact downlink

theorem State.raiseFor_of_some {s : State} {i : RecIdx} {r : TrailerRecord} (hr : s.record? i = some r) (d : Detail) :
    s.raiseFor i d = s.raise ⟨.trailer r.tag r.bay i, d⟩ := by
  rw [State.raiseFor, State.subjectOf_of_some hr]

/-! ## The consequences that concern one record -/

/-- UNIT_SILENT of a record that is not STALE yet (R50). -/
theorem State.fallSilent_of_some {s : State} {i : RecIdx} {r : TrailerRecord} (hr : s.record? i = some r)
    (h : r.unitState ≠ .stale) :
    s.fallSilent i = (s.setRecord i (some { r with unitState := .stale, changed := true })).raise
      ⟨.trailer r.tag r.bay i, .unitSilent r.lastSequence⟩ := by
  have marked : r.marking { r with unitState := .stale } = { r with unitState := .stale, changed := true } :=
    TrailerRecord.marking_of_ne fun same => h (congrArg TrailerRecord.unitState same).symm
  have written := s.record?_setRecord_self i (some { r with unitState := .stale, changed := true })
  simp only [State.fallSilent, State.updRecord_of_some hr, marked, State.raiseFor_of_some written, written, Option.bind_some]

/-- DOOR_OPEN_LONG, with the alarm of the record's zone (R53). -/
theorem State.openLong_of_some {s : State} {i : RecIdx} {r : TrailerRecord} (hr : s.record? i = some r) :
    s.openLong i = (s.setRecord i (some { r with alarmMark := true })).raise
      ⟨.trailer r.tag r.bay i, .doorOpenLong s.zones[r.bay.zone].doorAlarm⟩ := by
  have marked : r.marking { r with alarmMark := true } = { r with alarmMark := true } := TrailerRecord.marking_of_eq rfl
  have written := s.record?_setRecord_self i (some { r with alarmMark := true })
  simp only [State.openLong, hr, State.updRecord_of_some hr, marked, State.raiseFor_of_some written]
  rfl

/-- A command in flight times out, and leaves its slot (R126). -/
theorem State.timeoutCommand_of_flight {s : State} {i : RecIdx} {r : TrailerRecord} {f : InFlight}
    (hr : s.record? i = some r) (hf : r.slot.flight = some f) :
    s.timeoutCommand i =
      (s.raise ⟨.trailer r.tag r.bay i, .cmdUnconfirmed f.command f.sequence f.sentAt⟩).clearFlight i := by
  simp only [State.timeoutCommand, hr, Option.bind_some, hf, State.raiseFor_of_some hr]

theorem State.clearFlight_of_sent {s : State} {i : RecIdx} {r : TrailerRecord} {f : InFlight} (hr : s.record? i = some r)
    (hslot : r.slot = .sent f) : s.clearFlight i = s.setRecord i (some { r with slot := .empty, changed := true }) := by
  simp only [State.clearFlight, hr, hslot]
  rw [State.updRecord_of_some hr, TrailerRecord.marking_slot (by simp [hslot])]

theorem State.clearFlight_of_sentNext {s : State} {i : RecIdx} {r : TrailerRecord} {f : InFlight} {c : Command}
    (hr : s.record? i = some r) (hslot : r.slot = .sentNext f c) :
    s.clearFlight i = { s.setRecord i (some { r with slot := .queued c, changed := true }) with
                        downlink := s.downlink ++ [i] } := by
  simp only [State.clearFlight, hr, hslot]
  rw [State.queueCommand, State.updRecord_of_some hr, TrailerRecord.marking_slot (by simp [hslot])]
  rfl

/-- A defrost not-before that has reached 0 (R105). -/
theorem State.waitEnds_of_some {s : State} {i : RecIdx} {r : TrailerRecord} (hr : s.record? i = some r) :
    s.waitEnds i = (s.setRecord i (some { r with changed := true })).grantPass := by
  have marked : r.marking { r with changed := true } = { r with changed := true } := TrailerRecord.marking_of_eq rfl
  rw [State.waitEnds, State.updRecord_of_some hr, marked]

/-- Settles O48: each row takes its consequence, of the part with the others left due. -/
theorem recordConsequencesAct : Obligations.RecordConsequencesAct := by
  refine ⟨fun i r s u hr => ⟨?_, ?_, ?_, ?_⟩, fun i r s u hr => ⟨?_, ?_, ?_⟩⟩
  · rintro hdue hstale rfl
    exact (exec_command_of_mem hdue).trans (congrArg Host.Outcome.next (State.fallSilent_of_some hr hstale))
  · rintro hdue rfl
    exact (exec_command_of_mem hdue).trans (congrArg Host.Outcome.next (State.openLong_of_some hr))
  · rintro f hdue hslot rfl
    refine (exec_command_of_mem hdue).trans (congrArg Host.Outcome.next ?_)
    refine (State.timeoutCommand_of_flight
      (s := { s with due := s.due.erase (.unconfirmed i) }) (f := f) hr (by rw [hslot]; rfl)).trans ?_
    exact State.clearFlight_of_sent ((State.record?_raise _ _ i).trans hr) hslot
  · rintro f c hdue hslot rfl
    refine (exec_command_of_mem hdue).trans (congrArg Host.Outcome.next ?_)
    refine (State.timeoutCommand_of_flight
      (s := { s with due := s.due.erase (.unconfirmed i) }) (f := f) hr (by rw [hslot]; rfl)).trans ?_
    have raised := (State.record?_raise ⟨.trailer r.tag r.bay i, .cmdUnconfirmed f.command f.sequence f.sentAt⟩
      { s with due := s.due.erase (.unconfirmed i) } i).trans hr
    rw [State.clearFlight_of_sentNext raised hslot, State.downlink_raise]
  · rintro hdue rfl
    exact exec_command_of_mem hdue
  · rintro hdue rfl
    exact exec_command_of_mem hdue
  · rintro hdue rfl
    exact (exec_command_of_mem hdue).trans (congrArg Host.Outcome.next (State.waitEnds_of_some hr))

end Sys2Proof.Machine
end

section
/-! # What a report does to holds and to a grant that stands -/

namespace Sys2Proof.Machine

open Sys2Proof

/-! ## The door -/

/-- A door that stays as it was does nothing (R51, R52). -/
theorem State.doorStep_same (i : RecIdx) (door : Door) (s : State) : s.doorStep i door (some door) = s := by
  cases door <;> simp [State.doorStep]

theorem State.doorStep_opened {s : State} {i : RecIdx} {r : TrailerRecord} {previous : Option Door}
    (hr : s.record? i = some r) (h : previous ≠ some .opened) :
    s.doorStep i .opened previous =
      (s.setRecord i (some (r.marking { r with doorOpenSince := some 0, alarmMark := false }))).pushActivity i .doorHold
        none := by
  simp only [State.doorStep, if_neg h, State.updRecord_of_some hr]

theorem State.doorStep_closed {s : State} {i : RecIdx} {r : TrailerRecord} {previous : Option Door}
    (hr : s.record? i = some r) (h : previous ≠ some .closed) :
    s.doorStep i .closed previous =
      (s.setRecord i (some (r.marking { r with doorOpenSince := none, alarmMark := false }))).removeActivity i
        .doorHold := by
  simp only [State.doorStep, if_neg h, State.updRecord_of_some hr]

/-! ## The change of power source -/

/-- A grant on another feeder, or on none, changes the run data of its record and its item in the grant list. -/
theorem State.regrantOn_of_some {s : State} {i : RecIdx} {r : TrailerRecord} {d : RunData} {f : Option FeederNo}
    (hr : s.record? i = some r) (hd : r.run = some d) (hf : d.feeder ≠ f) :
    s.regrantOn i f =
      { s.setRecord i (some { r with run := some { d with feeder := f }, changed := true }) with
        grants := s.grants.map fun g => if g.record = i then { g with feeder := f } else g } := by
  have differ : ({ r with run := some { d with feeder := f } } : TrailerRecord).tracked ≠ r.tracked := fun same =>
    hf (RunData.mk.inj (Option.some.inj ((congrArg TrailerRecord.run same).trans hd))).2.1.symm
  simp only [State.regrantOn, State.updRecord_of_some hr, hd, Option.map_some, TrailerRecord.marking_of_ne differ]
  rfl

/-- A record with no grant, or with one that draws on its power source, goes on as it is. -/
theorem State.sourceChange_of_noGrant {s : State} {i : RecIdx} {r : TrailerRecord} (hr : s.record? i = some r)
    (hd : r.run = none) : s.sourceChange i = s := by
  simp only [State.sourceChange, hr, hd]

theorem State.sourceChange_of_same {s : State} {i : RecIdx} {r : TrailerRecord} {d : RunData} (hr : s.record? i = some r)
    (hd : r.run = some d) (h : r.source = .diesel ↔ d.feeder = none) : s.sourceChange i = s := by
  simp only [State.sourceChange, hr, hd]
  cases hsource : r.source with
  | diesel => simp only [h.mp hsource]
  | shore =>
    cases hfeeder : d.feeder with
    | none =>
      rw [h.mpr hfeeder] at hsource
      cases hsource
    | some f => rfl

/-- A SHORE grant on a trailer that runs on DIESEL gives its load back (R113). -/
theorem State.sourceChange_toDiesel {s : State} {i : RecIdx} {r : TrailerRecord} {d : RunData} {f : FeederNo}
    (hr : s.record? i = some r) (hd : r.run = some d) (hsource : r.source = .diesel) (hf : d.feeder = some f) :
    s.sourceChange i = (s.discharge f d.load).regrantOn i none := by
  simp only [State.sourceChange, hr, hd, hsource, hf]

/-- A DIESEL grant on a trailer that runs on SHORE is charged to the feeder of its zone, or revoked (R114). -/
theorem State.sourceChange_toShore {s : State} {i : RecIdx} {r : TrailerRecord} {d : RunData} (hr : s.record? i = some r)
    (hd : r.run = some d) (hsource : r.source = .shore) (hf : d.feeder = none) :
    s.sourceChange i =
      if s.fits (s.zoneOf r).feeder d.load then
        (s.charge (s.zoneOf r).feeder d.load).regrantOn i (some (s.zoneOf r).feeder)
      else s.endDefrost i (.revoked .source none) := by
  simp only [State.sourceChange, hr, hd, hsource, hf]

theorem State.fits_iff {s : State} {f : FeederNo} {load : Nat} :
    s.fits f load = true ↔ s.feeders[f].granted + load ≤ s.feeders[f].budget := decide_eq_true_iff

/-- Settles O29: the door by what it was, the grant by its feeder and the record's source, and the termination test. -/
theorem reportActsOnTheDefrost : Obligations.ReportActsOnTheDefrost := by
  intro i r x previous s hr
  refine ⟨⟨?_, State.doorStep_opened hr, ?_, State.doorStep_closed hr⟩,
    ⟨State.sourceChange_of_noGrant hr, fun d f hd hsource hf => ?_, fun d f hd hsource hf hfeeder => ⟨fun fits => ?_,
      fun short => ?_⟩, fun d hd => State.sourceChange_of_same hr hd⟩, ?_⟩
  · rintro rfl
    exact s.doorStep_same i .opened
  · rintro rfl
    exact s.doorStep_same i .closed
  · rw [State.sourceChange_toDiesel hr hd hsource hf,
      State.regrantOn_of_some (s := s.discharge f d.load) hr hd (by simp [hf])]
    rfl
  · subst hfeeder
    have fits : s.fits (s.zoneOf r).feeder d.load = true := State.fits_iff.mpr fits
    rw [State.sourceChange_toShore hr hd hsource hf, if_pos fits,
      State.regrantOn_of_some (s := s.charge (s.zoneOf r).feeder d.load) hr hd (by simp [hf])]
    rfl
  · subst hfeeder
    have short : ¬ s.fits (s.zoneOf r).feeder d.load = true := mt State.fits_iff.mp (not_le.mpr short)
    rw [State.sourceChange_toShore hr hd hsource hf, if_neg short]
  · simp only [State.terminationTest, hr]
    rfl

end Sys2Proof.Machine
end

section
/-! # Frames on UNT -/

namespace Sys2Proof.Machine

open Sys2Proof

/-- A frame allowed on UNT and of the length of its kind is taken there (R168). -/
theorem State.judgeFrame_unt {k : Kind} {body : List Byte} (hport : k.allowedOn .unt) (hlength : body.length = k.bodyLength)
    (s : State) : s.judgeFrame .unt k.code body = s.takeUnit k body := by
  simp [State.judgeFrame, hport, hlength, PortId.master]

theorem exec_unt {k : Kind} {body : List Byte} {s : State} (h : s.ready .unt) (hport : k.allowedOn .unt)
    (hlength : body.length = k.bodyLength) :
    exec (frameCommand .unt k.code body) s = .next ((s.received .unt).takeUnit k body) := by
  rw [exec_frameCommand_of_ready h, State.judgeFrame_unt hport hlength]

/-! ## The command of a reply -/

/-- No command in COMMISSION mode (R130), and none from an empty Downlink Queue (R123). -/
theorem State.sendHead_of_nothing {s : State} (h : s.mode = .commission ∨ s.downlink = []) : s.sendHead = (s, none) := by
  unfold State.sendHead
  cases hmode : s.mode with
  | commission => rfl
  | yard =>
    have empty : s.downlink = [] := h.resolve_left (by simp [hmode])
    simp only [empty]

/-- The head record is sent, under its next sequence number (R119, R123). -/
theorem State.sendHead_of_queued {s : State} {i : RecIdx} {rest : List RecIdx} {r : TrailerRecord} {c : Command}
    (hmode : s.mode = .yard) (hqueue : s.downlink = i :: rest) (hr : s.record? i = some r) (hslot : r.slot = .queued c) :
    s.sendHead =
      ({ s with downlink := rest }.setRecord i
          (some { r with sequence := r.sequence + 1, changed := true
                         slot := .sent { command := c, sequence := r.sequence + 1, sentAt := s.clock.time, seconds := 0 } }),
        some { tag := r.tag, command := c, sequence := r.sequence + 1 }) := by
  have popped : State.record? { s with downlink := rest } i = some r := hr
  have sent : r.marking { r with sequence := r.sequence + 1
                                 slot := .sent ⟨c, r.sequence + 1, s.clock.time, 0⟩ } =
      { r with sequence := r.sequence + 1, slot := .sent ⟨c, r.sequence + 1, s.clock.time, 0⟩, changed := true } :=
    TrailerRecord.marking_of_ne fun same => Slot.noConfusion ((congrArg TrailerRecord.slot same).trans hslot)
  unfold State.sendHead
  split
  case h_1 commission => cases hmode.symm.trans commission
  case h_2 => simp only [hqueue, popped, hslot, State.updRecord_of_some popped, State.now, sent]

/-! ## The frames -/

theorem UnitReport.length_of_parse {arrival : YardTime} {body : List Byte} {u : UnitReport}
    (h : UnitReport.parse arrival body = some u) : body.length = Kind.unitReport.bodyLength := by
  unfold UnitReport.parse at h
  split at h
  · rfl
  · cases h

theorem State.takeUnit_poll (s : State) :
    s.takeUnit .poll [] = s.sendHead.1.beginReply .unt Kind.poll.code (.unit .pollReply s.sendHead.2) := rfl

theorem State.takeUnit_report {s : State} {body : List Byte} {u : UnitReport} (h : UnitReport.parse s.now body = some u) :
    s.takeUnit .unitReport body = (s.arrive u).1.replyUnit Kind.unitReport.code (s.arrive u).2 := by
  simp only [State.takeUnit, h]

/-- Settles O10: a poll by what `sendHead` gives, a report by whether the FIFO holds fewer than its depth. -/
theorem unitFramesAreAnswered : Obligations.UnitFramesAreAnswered := by
  refine ⟨fun s h => ⟨fun nothing => ?_, fun i rest r c hmode hqueue hr hslot => ?_⟩,
    fun body u s h hparse => ⟨fun space => ?_, fun full => ?_⟩⟩
  · refine (exec_unt (k := .poll) h rfl rfl).trans (congrArg Host.Outcome.next ?_)
    rw [State.takeUnit_poll, State.sendHead_of_nothing (s := s.received .unt) nothing]
  · refine (exec_unt (k := .poll) h rfl rfl).trans (congrArg Host.Outcome.next ?_)
    rw [State.takeUnit_poll, State.sendHead_of_queued (s := s.received .unt) hmode hqueue hr hslot]
    rfl
  · refine (exec_unt (k := .unitReport) h rfl (UnitReport.length_of_parse hparse)).trans (congrArg Host.Outcome.next ?_)
    rw [State.takeUnit_report (s := s.received .unt) hparse, State.arrive, if_pos (by exact space)]
    rfl
  · refine (exec_unt (k := .unitReport) h rfl (UnitReport.length_of_parse hparse)).trans (congrArg Host.Outcome.next ?_)
    rw [State.takeUnit_report (s := s.received .unt) hparse, State.arrive, if_neg (by exact not_lt.mpr full)]

end Sys2Proof.Machine
end

section
/-! # The head of the Intake FIFO -/

namespace Sys2Proof.Machine

open Sys2Proof

/-! ## The two commands of the Report Intake -/

theorem State.settle_whenInService {s : State} (hsupply : s.supply = .inService) (hdue : s.due = [])
    (f : State → State) : s.settle.whenInService f = f s := by
  rw [State.settle_of_nothing_due hdue, State.whenInService, if_pos hsupply]

theorem exec_takeHead_of_ready {s : State} (hsupply : s.supply = .inService) (hdue : s.due = []) :
    exec .takeHead s = .next s.takeHead :=
  congrArg Host.Outcome.next (State.settle_whenInService hsupply hdue _)

theorem exec_reportApplication_of_ready {s : State} (hsupply : s.supply = .inService) (hdue : s.due = []) :
    exec .reportApplication s = .next s.applyHead :=
  congrArg Host.Outcome.next (State.settle_whenInService hsupply hdue _)

/-! ## The mode echo -/

theorem ModeEcho.ofCode_eq_none {b : Byte} (h : ∀ n, 1 ≤ n → n ≤ 5 → b.toNat ≠ n) :
    ModeEcho.ofCode b = none := by
  unfold ModeEcho.ofCode
  split
  case h_6 => rfl
  all_goals exact absurd ‹_› (h _ (by decide) (by decide))

theorem ModeEcho.exists_ofCode {b : Byte} (low : 1 ≤ b.toNat) (high : b.toNat ≤ 5) :
    ∃ echo, ModeEcho.ofCode b = some echo := by
  unfold ModeEcho.ofCode
  interval_cases b.toNat <;> exact ⟨_, rfl⟩

/-! ## The head is taken -/

section
variable {s : State} {u : UnitReport} {rest : List UnitReport} (hintake : s.intake = .idle) (hfifo : s.fifo = u :: rest)
include hintake hfifo

/-- A malformed head leaves the FIFO and nothing else (R40). -/
theorem State.takeHead_of_malformed (h : ModeEcho.ofCode u.echoCode = none) : s.takeHead = { s with fifo := rest } := by
  have idle : ({ s with fifo := rest, intake := .idle } : State) = { s with fifo := rest } := by rw [← hintake]
  rw [State.takeHead, hintake, hfifo]
  simp only [h, State.dropHead, hfifo, List.tail_cons, idle]

/-- Any other head is looked up (R43). -/
theorem State.takeHead_of_echo {echo : ModeEcho} (h : ModeEcho.ofCode u.echoCode = some echo) :
    s.takeHead = (s.lookup .intake u.tag).1.answerIntake (s.lookup .intake u.tag).2 := by
  rw [State.takeHead, hintake, hfifo]
  simp only [h]

end

theorem State.answerIntake_found (r : Resolved) (s : State) :
    s.answerIntake (.found r) = { s with intake := .translated r.record } := rfl

theorem State.answerIntake_waiting (s : State) : s.answerIntake .waiting = { s with intake := .translating } := by
  unfold State.answerIntake
  cases s.fifo <;> rfl

/-! ## The head is applied -/

theorem fifo_of_outsideScheduler {s t : State} (h : s.outsideScheduler = t.outsideScheduler) : s.fifo = t.fifo := by
  have fifo : s.outsideScheduler.fifo = t.outsideScheduler.fifo := congrArg State.fifo h
  exact fifo

theorem State.applyReport_fifo (i : RecIdx) (r : TrailerRecord) (u : UnitReport) (echo : ModeEcho) (s : State) :
    (s.applyReport i r u echo).fifo = s.fifo := fifo_of_outsideScheduler (s.applyReport_frame i r u echo)

theorem State.dropHead_of_fifo {s : State} {u : UnitReport} {rest : List UnitReport} (hfifo : s.fifo = u :: rest) :
    s.dropHead = { s with fifo := rest, intake := .idle } := by
  rw [State.dropHead, hfifo, List.tail_cons]

theorem State.discardUnknown_of_fifo {s : State} {u : UnitReport} {rest : List UnitReport} (hfifo : s.fifo = u :: rest) :
    s.discardUnknown u = { s.raise ⟨.tagAlone u.tag, .unknownUnit u.sequence⟩ with fifo := rest, intake := .idle } := by
  rw [State.discardUnknown, State.dropHead_of_fifo ((s.raise_fifo _).trans hfifo)]

section
variable {s : State} {i : RecIdx} {u : UnitReport} {rest : List UnitReport} (hintake : s.intake = .translated i)
  (hfifo : s.fifo = u :: rest)
include hintake hfifo

/-- A head whose record is free or holds another tag is discarded as unknown (R44). -/
theorem State.applyHead_unknown (h : ∀ r, s.record? i = some r → r.tag ≠ u.tag) :
    s.applyHead = { s.raise ⟨.tagAlone u.tag, .unknownUnit u.sequence⟩ with fifo := rest, intake := .idle } := by
  rw [State.applyHead, hintake, hfifo]
  cases hr : s.record? i with
  | none => simp only [hr, State.discardUnknown_of_fifo hfifo]
  | some r => simp only [hr, if_pos (h r hr), State.discardUnknown_of_fifo hfifo]

/-- A duplicate is discarded silently (R45). -/
theorem State.applyHead_duplicate {r : TrailerRecord} (hr : s.record? i = some r) (htag : r.tag = u.tag)
    (h : r.lastSequence = some u.sequence) : s.applyHead = { s with fifo := rest, intake := .idle } := by
  rw [State.applyHead, hintake, hfifo]
  simp only [hr, htag, ne_eq, not_true_eq_false, if_false, if_pos h, State.dropHead_of_fifo hfifo]

/-- Any other head is applied (R45). -/
theorem State.applyHead_accepted {r : TrailerRecord} {echo : ModeEcho} (hr : s.record? i = some r) (htag : r.tag = u.tag)
    (h : r.lastSequence ≠ some u.sequence) (hecho : ModeEcho.ofCode u.echoCode = some echo) :
    s.applyHead = { s.applyReport i r u echo with fifo := rest, intake := .idle } := by
  have kept := (s.applyReport_fifo i r u echo).trans hfifo
  rw [State.applyHead, hintake, hfifo]
  simp only [hr, htag, ne_eq, not_true_eq_false, if_false, if_neg h, hecho, State.dropHead_of_fifo kept]

end

/-- Settles O21: the head is taken by its echo and what its lookup answers, and applied by what its record holds. -/
theorem headIsTakenAndApplied : Obligations.HeadIsTakenAndApplied := by
  refine ⟨fun u rest s hsupply hdue hintake hfifo => ?_, fun u rest i echo s hsupply hdue hintake hfifo hecho => ?_⟩
  · rw [exec_takeHead_of_ready hsupply hdue]
    refine ⟨fun none => ?_, fun low high ht => ?_, fun low high ht => ?_⟩
    · rw [State.takeHead_of_malformed hintake hfifo (ModeEcho.ofCode_eq_none none)]
    · obtain ⟨echo, hecho⟩ := ModeEcho.exists_ofCode low high
      rw [State.takeHead_of_echo hintake hfifo hecho]
      refine ⟨fun way e hit => ?_, fun miss idle => ?_, fun q miss busy => ?_⟩
      · rw [State.lookup_of_hit .intake ht hit, State.answerIntake_found]
        exact ⟨_, rfl⟩
      · rw [State.lookup_of_miss .intake ht miss, State.answerIntake_waiting, State.startSearch, idle]
      · rw [State.lookup_of_miss .intake ht miss, State.answerIntake_waiting, State.startSearch, busy]
    · obtain ⟨echo, hecho⟩ := ModeEcho.exists_ofCode low high
      have missing : s.lookup .intake u.tag = (s, .notFound) := if_pos ht
      rw [State.takeHead_of_echo hintake hfifo hecho, missing, State.answerIntake_notFound hfifo, ht]
  · rw [exec_reportApplication_of_ready hsupply hdue]
    refine ⟨fun unknown => ?_, fun r hr htag same => ?_, fun r hr htag new => ?_⟩
    · rw [State.applyHead_unknown hintake hfifo unknown]
    · rw [State.applyHead_duplicate hintake hfifo hr htag same]
    · rw [State.applyHead_accepted hintake hfifo hr htag new hecho]

end Sys2Proof.Machine
end

section
/-! # The frost update of a report -/

namespace Sys2Proof.Machine

open Sys2Proof

/-! ## The frost level -/

/-- The frost level is the accumulator over the frost scale, rounded half up (R62). -/
theorem frostLevel_eq_iff {a n : Nat} :
    frostLevel a = n ↔ 262144 * n ≤ a + 131072 ∧ a + 131072 < 262144 * (n + 1) := by
  simp only [frostLevel, Config.frostScale]
  omega

/-! ## The terms -/

theorem coilDrop_eq (returnAir coil : Int) : coilDrop returnAir coil = (max 0 (min 200 (returnAir - coil))).toNat := by
  unfold coilDrop
  omega

theorem coilDrop_le (returnAir coil : Int) : coilDrop returnAir coil ≤ 200 := by
  unfold coilDrop
  omega

theorem coilTerm_eq (x : Readings) (h dt : Nat) :
    coilTerm x h dt =
      if x.echo = .cool ∧ x.coil < 0 then (max 0 (min 200 (x.returnAir - x.coil))).toNat * h * dt else 0 := by
  rw [coilTerm, coilDrop_eq]

theorem ModeEcho.frosts_iff (e : ModeEcho) : e.frosts = true ↔ e = .cool ∨ e = .fansOff ∨ e = .standby := by
  cases e <;> simp [ModeEcho.frosts]

theorem doorTerm_eq (x : Readings) (previous : Option Door) (h weight dt : Nat) :
    doorTerm x previous h weight dt =
      if (x.echo = .cool ∨ x.echo = .fansOff ∨ x.echo = .standby) ∧ x.coil < 0 ∧
          (x.door = .opened ∨ previous = some .opened) then weight * h * 16 * dt
      else 0 := by
  simp only [doorTerm, ModeEcho.frosts_iff]

theorem humidityOf_eq (g : Settings) (x : Readings) :
    humidityOf g x = match x.humidity with | some h => h | none => g.humidityFallback := by
  unfold humidityOf
  cases x.humidity <;> rfl

/-- 200 · 100 · 900 is the most that a coil term adds. -/
theorem coilTerm_le {x : Readings} {h dt : Nat} (hh : h ≤ 100) (hdt : dt ≤ 900) : coilTerm x h dt ≤ 18000000 := by
  unfold coilTerm
  split
  · calc coilDrop x.returnAir x.coil * h * dt
      _ ≤ 200 * 100 * 900 := Nat.mul_le_mul (Nat.mul_le_mul (coilDrop_le _ _) hh) hdt
  · exact Nat.zero_le _

/-- 255 · 100 · 16 · 900 is the most that a door term adds. -/
theorem doorTerm_le {x : Readings} {previous : Option Door} {h weight dt : Nat} (hh : h ≤ 100) (hweight : weight ≤ 255)
    (hdt : dt ≤ 900) : doorTerm x previous h weight dt ≤ 367200000 := by
  unfold doorTerm
  split
  · calc weight * h * 16 * dt
      _ ≤ 255 * 100 * 16 * 900 := Nat.mul_le_mul (Nat.mul_le_mul_right 16 (Nat.mul_le_mul hweight hh)) hdt
  · exact Nat.zero_le _

/-! ## The time step and the update -/

theorem timeStep_of_none {r : TrailerRecord} (h : r.lastSequence = none) : timeStep r = 0 := by
  simp only [timeStep, h]

theorem timeStep_of_some {r : TrailerRecord} {q : Byte} (h : r.lastSequence = some q) :
    timeStep r = min r.reportAge 900 := by
  simp only [timeStep, h, Config.maxTimeStep]

theorem timeStep_le (r : TrailerRecord) : timeStep r ≤ 900 := by
  cases h : r.lastSequence with
  | none => exact (timeStep_of_none h).trans_le (Nat.zero_le _)
  | some q => exact (timeStep_of_some h).trans_le (min_le_right _ _)

theorem State.effectiveThreshold_eq (s : State) (r : TrailerRecord) :
    s.effectiveThreshold r = match r.thresholdOverride with | some n => n | none => s.zones[r.bay.zone].frostThreshold := by
  unfold State.effectiveThreshold
  cases r.thresholdOverride <;> rfl

/-- Settles O23: the time step by the last sequence, the level by the quotient, and the two terms with their bounds. -/
theorem frostIsCounted : Obligations.FrostIsCounted := by
  refine ⟨fun r => ⟨timeStep_le r, timeStep_of_none, fun q hq => ⟨fun young => ?_, fun old => ?_⟩⟩,
    ⟨fun a n => frostLevel_eq_iff, frostLevel_eq_iff.mpr (by norm_num)⟩, ?_, fun i x previous dt r s hr => ?_⟩
  · rw [timeStep_of_some hq, min_eq_left young]
  · rw [timeStep_of_some hq, min_eq_right old]
  · intro g a x previous dt humidity coil door hhumidity hcoil hdoor
    have humidity_eq : humidityOf g x = humidity := (humidityOf_eq g x).trans hhumidity.symm
    have coil_eq : coilTerm x humidity dt = coil := (coilTerm_eq x humidity dt).trans hcoil.symm
    have door_eq : doorTerm x previous humidity g.doorWeight dt = door :=
      (doorTerm_eq x previous humidity g.doorWeight dt).trans hdoor.symm
    refine ⟨by rw [frostAfter, humidity_eq, coil_eq, door_eq, Config.frostMax], fun hdt hh hweight => ?_⟩
    rw [← coil_eq, ← door_eq]
    exact Nat.add_le_add (coilTerm_le hh hdt) (doorTerm_le hh hweight hdt)
  · refine (State.updRecord_of_some hr _).trans ?_
    exact congrArg (fun n => s.setRecord i (some (r.marking
      { r with frost := frostAfter s.settings r.frost x previous dt, threshold := n }))) (s.effectiveThreshold_eq r)

end Sys2Proof.Machine
end

section
/-! # What an accepted report leaves -/

namespace Sys2Proof.Machine

open Sys2Proof

/-! ## What stays stored while the other steps run -/

/-- A placed record that is `y` but for what `steady` leaves out. -/
def State.holdsSteady (i : RecIdx) (y : TrailerRecord) (s : State) : Prop :=
  (s.record? i).map TrailerRecord.steady = some y

theorem State.holdsSteady_iff {s : State} {i : RecIdx} {y : TrailerRecord} :
    s.holdsSteady i y ↔ ∃ r, s.record? i = some r ∧ r.steady = y := Option.map_eq_some_iff

theorem TrailerRecord.steady_marking (old new : TrailerRecord) : (old.marking new).steady = new.steady := by
  unfold TrailerRecord.marking
  split <;> rfl

theorem State.holdsSteady_updRecord {s : State} {i j : RecIdx} {y : TrailerRecord} {f : TrailerRecord → TrailerRecord}
    (hf : ∀ r, (f r).steady = r.steady) (h : s.holdsSteady i y) : (s.updRecord j f).holdsSteady i y := by
  obtain ⟨r, hr, steady⟩ := State.holdsSteady_iff.mp h
  cases hj : s.record? j with
  | none =>
    rw [State.updRecord, hj]
    exact h
  | some old =>
    rw [State.updRecord_of_some hj]
    by_cases same : j = i
    · subst same
      cases hj.symm.trans hr
      refine State.holdsSteady_iff.mpr ⟨_, State.record?_setRecord_self _ _ _, ?_⟩
      rw [TrailerRecord.steady_marking, hf, steady]
    · exact State.holdsSteady_iff.mpr ⟨r, (State.record?_setRecord_ne _ _ same).trans hr, steady⟩

theorem State.holdsSteady_keptByWork (i : RecIdx) (y : TrailerRecord) : KeptByWork (State.holdsSteady i y) where
  update _ _ _ hf h := State.holdsSteady_updRecord hf h
  tables _ _ _ _ _ _ _ h := h
  raise e s h := by
    rw [State.holdsSteady, State.record?_raise]
    exact h

/-! ## The first step and the last -/

/-- A record with a report stored in it (R55). -/
def TrailerRecord.reported (r : TrailerRecord) (u : UnitReport) (x : Readings) : TrailerRecord :=
  { r with doorHistory := some u.door, readings := some x, source := u.source, lastSequence := some u.sequence
           reportAge := 0, unitState := .live }

theorem State.storeReport_of_some {s : State} {i : RecIdx} {r : TrailerRecord} (hr : s.record? i = some r)
    (u : UnitReport) (x : Readings) : s.storeReport i u x = s.setRecord i (some (r.marking (r.reported u x))) :=
  State.updRecord_of_some hr _

theorem State.storeReport_holdsSteady {s : State} {i : RecIdx} {r : TrailerRecord} (hr : s.record? i = some r)
    (u : UnitReport) (x : Readings) : (s.storeReport i u x).holdsSteady i (r.reported u x).steady := by
  rw [State.storeReport_of_some hr]
  exact State.holdsSteady_iff.mpr ⟨_, State.record?_setRecord_self _ _ _, TrailerRecord.steady_marking _ _⟩

theorem State.markSeen_of_some {s : State} {i : RecIdx} {r : TrailerRecord} (hr : s.record? i = some r) :
    s.markSeen i = s.setRecord i (some { r with seen := true, changed := true }) := by
  have marked : r.marking { r with seen := true, changed := true } = { r with seen := true, changed := true } :=
    TrailerRecord.marking_of_eq rfl
  rw [State.markSeen, State.updRecord_of_some hr, marked]

/-- The steps between the storing and the flags leave a placed record, which the last step then marks. -/
theorem State.applyReport_marks {s : State} {i : RecIdx} {r : TrailerRecord} (u : UnitReport) (echo : ModeEcho)
    (hr : s.record? i = some r) :
    ∃ x, (s.applyReport i r u echo).record? i = some x ∧ x.steady = (r.reported u (u.readings echo)).steady ∧
      x.seen = true ∧ x.changed = true := by
  have kept : (s.applyReport i r u echo).holdsSteady i (r.reported u (u.readings echo)).steady :=
    (State.holdsSteady_keptByWork i _).applyReport i (State.storeReport_holdsSteady hr u _)
  obtain ⟨x, hx, steady⟩ := State.holdsSteady_iff.mp kept
  obtain ⟨w, last⟩ : ∃ w : State, s.applyReport i r u echo = w.markSeen i := ⟨_, rfl⟩
  refine ⟨x, hx, steady, ?_⟩
  rw [last] at hx
  cases hw : w.record? i with
  | none =>
    rw [State.markSeen, State.updRecord, hw] at hx
    cases hw.symm.trans hx
  | some z =>
    rw [State.markSeen_of_some hw, State.record?_setRecord_self] at hx
    cases hx
    exact ⟨rfl, rfl⟩

/-! ## What it leaves alone -/

theorem eq_of_outsideScheduler {s t : State} (h : t.outsideScheduler = s.outsideScheduler) :
    t = { s with records := t.records, downlink := t.downlink, feeders := t.feeders, queue := t.queue
                 nextJoin := t.nextJoin, grants := t.grants, nextGrant := t.nextGrant, desks := t.desks
                 checks := t.checks, nextSerial := t.nextSerial } := by
  have restored := congrArg (fun v : State =>
    { v with records := t.records, downlink := t.downlink, feeders := t.feeders, queue := t.queue
             nextJoin := t.nextJoin, grants := t.grants, nextGrant := t.nextGrant, desks := t.desks
             checks := t.checks, nextSerial := t.nextSerial }) h
  exact restored

theorem isSome_of_placements {s t : State} (h : t.placements = s.placements) (j : RecIdx) :
    (t.record? j).isSome = (s.record? j).isSome := by
  have placed := congrArg Option.isSome (congrFun h j)
  simpa only [State.placements, Option.isSome_map] using placed

/-- Settles O22: what `steady` leaves stays as the first step stored it, and the frames of the steps give the rest. -/
theorem acceptedReportIsStored : Obligations.AcceptedReportIsStored := by
  refine ⟨fun u i r echo s hr => ?_, fun u i r echo x s t hr hx ht => ?_, fun i r s hr => State.markSeen_of_some hr⟩
  · obtain ⟨x, hx, steady, seen, changed⟩ := State.applyReport_marks u echo hr
    have moved := s.applyReport_placements i r u echo
    have frame := s.applyReport_frame i r u echo
    generalize s.applyReport i r u echo = t at hx moved frame
    refine ⟨t, x, rfl, hx, ?_, ?_, ?_, ?_, ?_, ?_, ?_, ?_, seen, changed, isSome_of_placements moved,
      fun j y hy => ?_, eq_of_outsideScheduler frame⟩
    · exact (congrArg TrailerRecord.tag steady :)
    · exact (congrArg TrailerRecord.bay steady :)
    · exact congrArg TrailerRecord.unitState steady
    · exact congrArg TrailerRecord.reportAge steady
    · exact congrArg TrailerRecord.lastSequence steady
    · exact congrArg TrailerRecord.source steady
    · exact congrArg TrailerRecord.doorHistory steady
    · exact congrArg TrailerRecord.readings steady
    · exact (congrFun moved j).trans (State.placements_eq_some.mpr ⟨y, hy, rfl, rfl⟩)
  · subst hx ht
    rw [← TrailerRecord.reported, ← State.storeReport_of_some hr]
    rfl

end Sys2Proof.Machine
end

section
/-! # Estimates and clock kept in their ranges: the record and its writes -/

namespace Sys2Proof.Machine

open Sys2Proof

/-! ## The Estimator's arithmetic -/

theorem frostAfter_le (g : Settings) (a : Nat) (x : Readings) (previous : Option Door) (dt : Nat) :
    frostAfter g a x previous dt ≤ Config.frostMax := min_le_right _ _

theorem frostAtEnd_le (k : EndKind) (a : Nat) : frostAtEnd k a ≤ a := by
  cases k with
  | terminated => exact Nat.zero_le a
  | timedOut => exact Nat.div_le_self a 2
  | revoked | abandoned | cancelled | released => exact le_refl a

theorem rateSample_le (drop age : Nat) : rateSample drop age ≤ Config.burnRateTop := min_le_right _ _

/-- The average of two rates in range is in range (R68). -/
theorem averagedRate_le {b r : Nat} (hb : b ≤ Config.burnRateTop) (hr : r ≤ Config.burnRateTop) :
    averagedRate b r ≤ Config.burnRateTop := by
  simp only [averagedRate, Config.burnRateTop] at *
  omega

/-- The runway of a level in range is at most 60000 minutes, or unknown (R70). -/
theorem runwayOf_range {level : Nat} (hlevel : level ≤ 100) (b : Nat) :
    runwayOf level b ≤ 60000 ∨ runwayOf level b = Config.runwayUnknown := by
  unfold runwayOf
  split
  · exact .inr rfl
  · refine .inl ((Nat.div_le_self _ _).trans ?_)
    omega

theorem bump_le {n : Nat} (h : n ≤ Config.countTop) : bump n ≤ Config.countTop := by
  unfold bump
  split
  · assumption
  · exact h

theorem clampPercent_le (n : Nat) : clampPercent n ≤ 100 := min_le_right _ _

/-- A stored fuel reading is at most 100 (R46). -/
theorem UnitReport.fuel_readings_le {u : UnitReport} {echo : ModeEcho} {f : Nat} (h : (u.readings echo).fuel = some f) :
    f ≤ 100 := by
  obtain ⟨n, -, rfl⟩ := Option.map_eq_some_iff.mp h
  exact clampPercent_le n

/-! ## A record's estimates -/

theorem TrailerRecord.marking_estimatesOk {old new : TrailerRecord} (h : new.estimatesOk) :
    (old.marking new).estimatesOk := by
  unfold TrailerRecord.marking
  split
  · exact h
  · exact h

/-- A new reference at age 0 is in range where its level is (R67, R72). -/
theorem TrailerRecord.estimatesOk.withReference {r : TrailerRecord} (ok : r.estimatesOk) {level : Nat} (h : level ≤ 100) :
    ({ r with fuelRef := some level, fuelAge := 0 } : TrailerRecord).estimatesOk := by
  obtain ⟨hfrost, -, -, hburn, hrunway⟩ := ok
  refine ⟨hfrost, ?_, Nat.zero_le _, hburn, hrunway⟩
  rintro _ ⟨⟩
  exact h

theorem TrailerRecord.placed_estimatesOk (t : Tag) (b : BayAddr) (source : Option Source) (load : Option Nat)
    (threshold : Nat) : (TrailerRecord.placed t b source load threshold).estimatesOk :=
  ⟨Nat.zero_le _, nofun, Nat.zero_le _, Nat.zero_le _, .inr rfl⟩

theorem TrailerRecord.tick_estimatesOk {r : TrailerRecord} (ok : r.estimatesOk) : r.tick.estimatesOk := by
  obtain ⟨hfrost, href, hage, hburn, hrunway⟩ := ok
  refine ⟨hfrost, href, ?_, hburn, hrunway⟩
  show (if r.fuelRef.isSome then bump r.fuelAge else r.fuelAge) ≤ Config.countTop
  split
  · exact bump_le hage
  · exact hage

theorem TrailerRecord.restarted_estimatesOk {r : TrailerRecord} (ok : r.estimatesOk) (threshold : Nat) :
    (r.restarted threshold).estimatesOk := by
  obtain ⟨hfrost, href, -, hburn, hrunway⟩ := ok
  exact ⟨hfrost, href, Nat.zero_le _, hburn, hrunway⟩

end Sys2Proof.Machine
end

section
/-! # The estimates of the records, while the part works on them -/

namespace Sys2Proof.Machine

open Sys2Proof

namespace State.estimatesOk

/-- Only the records matter to the estimates. -/
theorem of_records {s t : State} (ok : s.estimatesOk) (h : t.records = s.records) : t.estimatesOk := by
  intro i r hr
  refine ok i r ?_
  rwa [State.record?, ← h]

theorem of_outsideNotices {s t : State} (ok : s.estimatesOk) (h : t.outsideNotices = s.outsideNotices) :
    t.estimatesOk := by
  have records : t.outsideNotices.records = s.outsideNotices.records := congrArg State.records h
  exact ok.of_records records

variable {s : State} (ok : s.estimatesOk) (i : RecIdx)
include ok

theorem setRecord {x : Option TrailerRecord} (h : ∀ r, x = some r → r.estimatesOk) : (s.setRecord i x).estimatesOk := by
  intro j r hr
  rw [State.record?_setRecord] at hr
  split at hr
  · exact h r hr
  · exact ok j r hr

/-- A change of a record that keeps its estimates in range keeps all of them. -/
theorem updRecord (f : TrailerRecord → TrailerRecord)
    (hf : ∀ r, r.estimatesOk → (f r).estimatesOk) : (s.updRecord i f).estimatesOk := by
  cases hr : s.record? i with
  | none => rwa [State.updRecord, hr]
  | some r =>
    rw [State.updRecord_of_some hr]
    refine ok.setRecord i ?_
    rintro _ ⟨⟩
    exact TrailerRecord.marking_estimatesOk (hf r (ok i r hr))

omit i in
theorem raise (e : Event) : (s.raise e).estimatesOk := ok.of_outsideNotices (s.raise_frame e)

theorem raiseFor (d : Detail) : (s.raiseFor i d).estimatesOk := ok.raise _

/-! ## Chains and commands -/

theorem queueCommand (c : Command) : (s.queueCommand i c).estimatesOk :=
  ok.updRecord i (fun r => { r with slot := .queued c }) fun _ => id

theorem handOff (w : Command) : (s.handOff i w).estimatesOk := by
  unfold State.handOff
  split
  · exact ok
  · split
    · exact ok
    · split
      · exact ok.queueCommand i w
      · exact ok.updRecord i _ fun _ => id
      · split
        · exact ok
        · exact ok.updRecord i _ fun _ => id
      · split <;> exact ok.updRecord i _ fun _ => id

theorem pushActivity (k : Activity) (setBy : Option Master) : (s.pushActivity i k setBy).estimatesOk := by
  unfold State.pushActivity
  split
  · exact ok
  · split
    · exact ok
    · refine handOff (ok.updRecord i _ ?_) i _
      exact fun _ => id

theorem removeActivity (k : Activity) : (s.removeActivity i k).estimatesOk := by
  unfold State.removeActivity
  split
  · exact ok
  · split
    · simp only
      split
      · refine handOff (ok.updRecord i _ ?_) i _
        exact fun _ => id
      · exact ok.updRecord i _ fun _ => id
    · exact ok

theorem clearFlight : (s.clearFlight i).estimatesOk := by
  unfold State.clearFlight
  split
  · exact ok
  · split
    · exact ok.updRecord i _ fun _ => id
    · exact ok.queueCommand i _
    · exact ok
    · exact ok

theorem matchConfirmation (c : Option Nat) : (s.matchConfirmation i c).estimatesOk := by
  unfold State.matchConfirmation
  split
  · split
    · split
      · exact ok.clearFlight i
      · exact ok
    · exact ok
  · exact ok

theorem requeueOnEcho (echo : ModeEcho) : (s.requeueOnEcho i echo).estimatesOk := by
  unfold State.requeueOnEcho
  split
  · split
    · exact ok.queueCommand i _
    · exact ok
  · exact ok

theorem timeoutCommand : (s.timeoutCommand i).estimatesOk := by
  unfold State.timeoutCommand
  split
  · exact ok
  · exact (ok.raiseFor i _).clearFlight i

omit i in
theorem sendHead : s.sendHead.1.estimatesOk := by
  unfold State.sendHead
  split
  · exact ok
  · split
    · exact ok
    · next i rest _ =>
      have popped : { s with downlink := rest }.estimatesOk := ok
      simp only
      split
      · exact popped
      · split
        · exact popped.updRecord i _ fun _ => id
        · exact popped
        · exact popped
        · exact popped

/-! ## The Estimator -/

theorem frostUpdate (x : Readings) (previous : Option Door) (dt : Nat) : (s.frostUpdate i x previous dt).estimatesOk :=
  ok.updRecord i _ fun _ ⟨_, rest⟩ => ⟨frostAfter_le _ _ _ _ _, rest⟩

/-- The evaluation of a level in range writes a runway in range. -/
theorem evaluateFuel {level : Nat} (hlevel : level ≤ 100) : (s.evaluateFuel i level).estimatesOk := by
  have written : ∀ (b : Nat) (low : Bool),
      (s.updRecord i fun r => { r with runway := runwayOf level b, fuelLow := low }).estimatesOk := fun b low =>
    ok.updRecord i _ fun _ ⟨hfrost, href, hage, hburn, _⟩ => ⟨hfrost, href, hage, hburn, runwayOf_range hlevel b⟩
  unfold State.evaluateFuel
  split
  · exact ok
  · simp only
    split
    · exact (written _ _).raiseFor i _
    · exact written _ _

theorem fuelCase {f : Nat} (hf : f ≤ 100) (stamp : YardTime) : (s.fuelCase i f stamp).estimatesOk := by
  have referenced : ∀ u : State, u.estimatesOk →
      (u.updRecord i fun r => { r with fuelRef := some f, fuelAge := 0 }).estimatesOk := fun u oku =>
    oku.updRecord i _ fun _ okr => okr.withReference hf
  unfold State.fuelCase
  split
  · exact ok
  · split
    · exact referenced s ok
    · split
      · refine ok.updRecord i _ fun r okr => ?_
        obtain ⟨hfrost, href, hage, hburn, hrunway⟩ := okr.withReference hf
        exact ⟨hfrost, href, hage, averagedRate_le hburn (rateSample_le _ _), hrunway⟩
      · split
        · refine referenced _ (raiseFor (ok.updRecord i _ ?_) i _)
          exact fun _ => id
        · split
          · exact referenced s ok
          · exact ok

theorem fuelUpdate (source : Source) {x : Readings} (hx : ∀ f, x.fuel = some f → f ≤ 100) :
    (s.fuelUpdate i source x).estimatesOk := by
  unfold State.fuelUpdate
  split
  · next f hfuel => exact (ok.fuelCase i (hx f hfuel) _).evaluateFuel i (hx f hfuel)
  · exact ok

theorem postFuel {level : Nat} (hlevel : level ≤ 100) (refuelled : Bool) : (s.postFuel i level refuelled).estimatesOk := by
  have posted : (s.updRecord i fun r => { r with fuelRef := some level, fuelAge := 0 }).estimatesOk :=
    ok.updRecord i _ fun _ okr => okr.withReference hlevel
  unfold State.postFuel
  refine evaluateFuel ?_ i hlevel
  split
  · refine raiseFor (posted.updRecord i _ ?_) i _
    exact fun _ => id
  · exact posted

/-! ## The Defrost Scheduler -/

theorem joinQueue (excess : Nat) (manual : Bool) (passCount : Nat) :
    (s.joinQueue i excess manual passCount).estimatesOk := by
  have room : s.joinRoom.estimatesOk := by
    unfold State.joinRoom
    split <;> exact ok
  exact room

theorem evaluateDemand : (s.evaluateDemand i).estimatesOk := by
  unfold State.evaluateDemand
  split
  · exact ok
  · split
    · exact (ok.joinQueue i _ _ _).raiseFor i _
    · exact ok

theorem recomputeExcess : (s.recomputeExcess i).estimatesOk := by
  unfold State.recomputeExcess
  split
  · split
    · exact ok
    · split <;> exact ok
  · exact ok

theorem grant (feeder : Option FeederNo) (load : Nat) : (s.grant i feeder load).estimatesOk := by
  have left : (s.leaveQueue i).estimatesOk := ok
  have written := left.updRecord i (fun r =>
    { r with run := some { grant := s.nextGrant, feeder := feeder, load := load, heating := 0, paused := 0 } }) fun _ => id
  unfold State.grant
  refine pushActivity ?_ i _ _
  cases feeder <;> exact written

omit ok in
theorem consider {p : Pass} (ok : p.state.estimatesOk) : (p.consider i).state.estimatesOk := by
  unfold Pass.consider
  split
  · split
    · simp only
      split
      · exact ok.grant i none _
      · next f _ =>
        split
        · split
          · exact ok
          · exact ok.grant i (some f) _
        · split
          · split <;> exact ok
          · exact ok
    · exact ok
  · exact ok

omit i in
theorem grantPass : s.grantPass.estimatesOk := by
  have walked : s.walkQueue.state.estimatesOk :=
    List.foldlRecOn (motive := fun p : Pass => p.state.estimatesOk) _ Pass.consider ok fun _ ok i _ => consider i ok
  exact List.foldlRecOn (motive := State.estimatesOk) _ State.raiseShort walked fun s ok x _ =>
    ok.of_outsideNotices (s.raiseShort_frame x)

theorem demandStep : (s.demandStep i).estimatesOk := ((ok.recomputeExcess i).evaluateDemand i).grantPass

theorem queueAction (k : EndKind) : (s.queueAction i k).estimatesOk := by
  cases k with
  | timedOut => exact ok.evaluateDemand i
  | revoked =>
    show (s.reenqueue i).estimatesOk
    unfold State.reenqueue
    split
    · exact ok
    · split
      · exact ok.joinQueue i _ _ _
      · exact ok
  | terminated | abandoned | cancelled | released => exact ok

/-- The end of a defrost leaves the accumulator no higher (Table 4-1). -/
theorem endDefrost (k : EndKind) : (s.endDefrost i k).estimatesOk := by
  have lowered : ∀ u : State, u.estimatesOk →
      (u.updRecord i fun r => { r with frost := frostAtEnd k r.frost }).estimatesOk := fun u oku =>
    oku.updRecord i _ fun _ ⟨hfrost, rest⟩ => ⟨(frostAtEnd_le k _).trans hfrost, rest⟩
  have ended := ok.updRecord i (fun r => { r with run := none }) fun _ => id
  unfold State.endDefrost
  split
  · exact ok
  · refine queueAction (raiseFor (updRecord (removeActivity (lowered _ ?_) i _) i _ ?_) i _) i k
    · split <;> exact ended
    · exact fun _ => id

omit i in
theorem cutGrants (f : FeederNo) (n : Nat) : (State.cutGrants f n s).estimatesOk := by
  induction n generalizing s with
  | zero => exact ok
  | succ n ih =>
    unfold State.cutGrants
    split
    · exact ok
    · split
      · exact ok
      · exact ih (ok.endDefrost _ _)

theorem sourceChange : (s.sourceChange i).estimatesOk := by
  have regranted : ∀ (u : State) (f : Option FeederNo), u.estimatesOk → (u.regrantOn i f).estimatesOk := fun u f oku =>
    oku.updRecord i (fun r => { r with run := r.run.map fun d => { d with feeder := f } }) fun _ => id
  unfold State.sourceChange
  split
  · exact ok
  · split
    · exact ok
    · split
      · exact regranted _ _ ok
      · simp only
        split
        · exact regranted _ _ ok
        · exact ok.endDefrost i _
      · exact ok
      · exact ok

theorem terminationTest (x : Readings) : (s.terminationTest i x).estimatesOk := by
  unfold State.terminationTest
  split
  · exact ok
  · split
    · exact ok.endDefrost i _
    · exact ok

theorem releaseDefrost : (s.releaseDefrost i).estimatesOk := by
  unfold State.releaseDefrost
  split
  · exact (ok.endDefrost i _).grantPass
  · exact ok

/-! ## Reports and consequences of a tick -/

theorem doorStep (door : Door) (previous : Option Door) : (s.doorStep i door previous).estimatesOk := by
  unfold State.doorStep
  split
  · split
    · exact ok
    · refine pushActivity (ok.updRecord i _ ?_) i _ _
      exact fun _ => id
  · split
    · exact ok
    · refine removeActivity (ok.updRecord i _ ?_) i _
      exact fun _ => id

theorem storeReport (u : UnitReport) (x : Readings) : (s.storeReport i u x).estimatesOk := ok.updRecord i _ fun _ => id

theorem markSeen : (s.markSeen i).estimatesOk := ok.updRecord i _ fun _ => id

/-- An accepted report, step by step of Table 3-4. -/
theorem applyReport (r : TrailerRecord) (u : UnitReport) (echo : ModeEcho) : (s.applyReport i r u echo).estimatesOk := by
  have estimated := ((ok.storeReport i u (u.readings echo)).frostUpdate i (u.readings echo) r.doorHistory (timeStep r)).fuelUpdate i u.source
    fun f (hf : (u.readings echo).fuel = some f) => UnitReport.fuel_readings_le hf
  have defrost := ((estimated.doorStep i u.door r.doorHistory).sourceChange i).terminationTest i (u.readings echo)
  have commands := (defrost.matchConfirmation i u.confirmed).requeueOnEcho i echo
  exact (commands.demandStep i).markSeen i

omit i in
theorem take (e : TickEvent) : (s.take e).estimatesOk := by
  cases e with
  | rollover => exact ok.of_outsideNotices s.testPlans_frame
  | silent i =>
    refine raiseFor (ok.updRecord i _ ?_) i _
    exact fun _ => id
  | doorLong i =>
    show (s.openLong i).estimatesOk
    unfold State.openLong
    split
    · exact ok
    · refine raiseFor (ok.updRecord i _ ?_) i _
      exact fun _ => id
  | abandon i => exact (ok.endDefrost i _).grantPass
  | timeOut i => exact (ok.endDefrost i _).grantPass
  | waitOver i =>
    refine grantPass (ok.updRecord i _ ?_)
    exact fun _ => id
  | unconfirmed i => exact ok.timeoutCommand i
  | checkTimeout i k => exact ok.of_outsideNotices (s.timeoutItem_frame i k)
  | windowOver m => exact ok.of_outsideNotices (s.closeWindow_frame m)

end State.estimatesOk

end Sys2Proof.Machine
end

section
/-! # What is read from a body is in range -/

namespace Sys2Proof.Machine

open Sys2Proof

/-- What is read, if anything, has a property. -/
def ReadsAs {α : Type} (p : α → Prop) (x : Option α) : Prop := ∀ a, x = some a → p a

theorem readsAs_some {α : Type} {p : α → Prop} {a : α} (h : p a) : ReadsAs p (some a) := by
  rintro _ ⟨⟩
  exact h

theorem ReadsAs.bind {α β : Type} {p : α → Prop} {q : β → Prop} {x : Option α} (hx : ReadsAs p x) {f : α → Option β}
    (hf : ∀ a, p a → ReadsAs q (f a)) : ReadsAs q (x >>= f) := by
  cases x with
  | none => exact nofun
  | some a => exact hf a (hx a rfl)

theorem ReadsAs.map {α β : Type} {p : α → Prop} {q : β → Prop} {x : Option α} (hx : ReadsAs p x) {f : α → β}
    (hf : ∀ a, p a → q (f a)) : ReadsAs q (x.map f) := by
  cases x with
  | none => exact nofun
  | some a => exact readsAs_some (hf a (hx a rfl))

/-- A field with no range to keep. -/
theorem readsAs_any {α : Type} (x : Option α) : ReadsAs (fun _ => True) x := fun _ _ => trivial

/-! ## Fields -/

theorem readsAs_within (lo hi n : Nat) : ReadsAs (fun m => lo ≤ m ∧ m ≤ hi) (within lo hi n) := by
  unfold within
  split
  · next h => exact readsAs_some h
  · exact nofun

theorem readsAs_withinInt (lo hi n : Int) : ReadsAs (fun m => lo ≤ m ∧ m ≤ hi) (withinInt lo hi n) := by
  unfold withinInt
  split
  · next h => exact readsAs_some h
  · exact nofun

theorem readsAs_tagField (a b c d : Byte) : ReadsAs (fun t => t ≠ 0) (tagField a b c d) := by
  unfold tagField
  split
  · exact nofun
  · next h => exact readsAs_some h

theorem readsAs_subjectField (form a b c d : Byte) :
    ReadsAs (fun n : Subject => n.inRange = true) (subjectField form a b c d) := by
  unfold subjectField
  split
  · exact (readsAs_tagField a b c d).map fun _ ht => decide_eq_true ht
  · exact (readsAs_any _).map fun _ _ => rfl
  · exact nofun

/-- An optional field is absent or in range. -/
theorem ReadsAs.optionalField {α : Type} {p : α → Prop} {value : Option α} (h : ReadsAs p value) (presence : Byte) :
    ReadsAs (fun x : Option α => ∀ a, x = some a → p a) (optionalField presence value) := by
  unfold Machine.optionalField
  split
  · exact readsAs_some nofun
  · refine h.map fun a ha => ?_
    rintro _ ⟨⟩
    exact ha
  · exact nofun

theorem loadInRange_iff {load : Option Nat} : loadInRange load = true ↔ ∀ n, load = some n → 10 ≤ n ∧ n ≤ 250 := by
  cases load <;> simp [loadInRange]

theorem readsAs_planMatchField (choice period minute hour weekday day range : Byte) :
    ReadsAs (fun m : PlanMatch => m.inRange = true) (planMatchField choice period minute hour weekday day range) := by
  unfold planMatchField
  split
  · split
    · next mem => exact readsAs_some mem
    · exact nofun
  · refine (readsAs_within 0 59 _).bind fun minute hminute => (readsAs_within 0 23 _).bind fun hour hhour =>
      (readsAs_within 1 7 _).bind fun weekday hweekday => (readsAs_within 1 31 _).bind fun day hday =>
        (readsAs_any _).bind fun range _ => readsAs_some ?_
    simp [PlanMatch.inRange, hminute, hhour, hweekday, hday]
  · exact nofun

theorem readsAs_resultField (kind a b : Byte) :
    ReadsAs (fun x => ∀ level refuelled, x = CloseResult.fuel level refuelled → level ≤ 100) (resultField kind a b) := by
  refine (readsAs_any _).bind fun k _ => ?_
  cases k with
  | door =>
    simp only
    split
    · exact readsAs_some nofun
    · exact readsAs_some nofun
    · exact readsAs_some nofun
    · exact nofun
  | fuel =>
    refine (readsAs_within 0 100 _).bind fun level hlevel => (readsAs_any _).bind fun refuelled _ => readsAs_some ?_
    rintro _ _ ⟨⟩
    exact hlevel.2

theorem readsAs_settingField (setting value : Byte) :
    ReadsAs (fun v : SettingValue => v.inRange = true) (settingField setting value) := by
  unfold settingField
  split
  · exact (readsAs_any _).map fun _ _ => rfl
  · exact (readsAs_within 0 100 _).map fun _ h => decide_eq_true h.2
  · have byte : value.toNat < 256 := value.isLt
    exact readsAs_some (decide_eq_true (by omega))
  · refine (readsAs_within 5 120 _).map fun n h => ?_
    simp [SettingValue.inRange, h]
  · exact (readsAs_any _).map fun _ _ => rfl
  · exact (readsAs_any _).map fun _ _ => rfl
  · exact (readsAs_any _).map fun _ _ => rfl
  · exact nofun

theorem readsAs_zoneField (fields : List Byte) : ReadsAs (fun e : Zone => e.inRange = true) (zoneField fields) := by
  unfold zoneField
  split
  · refine (readsAs_any _).bind fun _ _ => (readsAs_any _).bind fun _ _ => (readsAs_any _).bind fun _ _ =>
      (readsAs_within 50 65535 _).bind fun _ hthreshold => (readsAs_within 10 90 _).bind fun _ hmax =>
      (readsAs_withinInt 0 300 _).bind fun _ hterm => (readsAs_within 1 60 _).bind fun _ hhold =>
      (readsAs_within 1 120 _).bind fun _ hdoor => (readsAs_within 60 2880 _).bind fun _ hmargin =>
      (readsAs_within 5 50 _).bind fun _ hfloor => (readsAs_within 10 250 _).bind fun _ hload => readsAs_some ?_
    simp [Zone.inRange, hthreshold, hmax, hterm, hhold, hdoor, hmargin, hfloor, hload]
  · exact nofun

theorem readsAs_clockField (fields : List Byte) :
    ReadsAs (fun x : YardTime × Nat => x.1.inRange = true ∧ 1 ≤ x.2 ∧ x.2 ≤ 7) (clockField fields) := by
  unfold clockField
  split
  · simp only
    split
    · next ht => exact (readsAs_within 1 7 _).map fun _ hw => ⟨ht, hw⟩
    · exact nofun
  · exact nofun

/-! ## Requests -/

/-- A request read from a body of the length of its kind has every field in its range (R9 step 2). -/
theorem inRange_of_parse {k : Kind} {body : List Byte} (hl : body.length = k.bodyLength) :
    ReadsAs (fun req => req.inRange = true) (Request.parse k body) := by
  cases k with
  | unitReport | poll => exact nofun
  | zoneSet =>
    match body, hl with
    | _ :: rest, _ =>
      exact (readsAs_any _).bind fun _ _ => (readsAs_zoneField rest).bind fun _ he => readsAs_some he
  | baySet =>
    match body, hl with
    | [_, _, _, _], _ =>
      exact (readsAs_any _).bind fun _ _ => (readsAs_any _).bind fun _ _ => (readsAs_any _).bind fun _ _ => readsAs_some rfl
  | place =>
    match body, hl with
    | [_, _, _, _, _, _, _, _, _, _], _ =>
      refine (readsAs_tagField _ _ _ _).bind fun t ht => (readsAs_any _).bind fun _ _ => (readsAs_any _).bind fun _ _ =>
        ((readsAs_within 10 250 _).optionalField _).bind fun load hload => readsAs_some ?_
      simpa [Request.inRange, loadInRange_iff.mpr hload] using ht
  | recordEdit =>
    match body, hl with
    | [_, _, _, _, _, _, _, _, _, _], _ =>
      refine (readsAs_subjectField _ _ _ _ _).bind fun n hn =>
        ((readsAs_within 10 250 _).optionalField _).bind fun load hload =>
        ((readsAs_within 50 65535 _).optionalField _).bind fun override hover => readsAs_some ?_
      cases override with
      | none => simp [Request.inRange, hn, loadInRange_iff.mpr hload]
      | some x => simp [Request.inRange, hn, loadInRange_iff.mpr hload, hover x rfl]
  | move =>
    match body, hl with
    | [_, _, _, _, _, _], _ =>
      exact (readsAs_tagField _ _ _ _).bind fun _ ht => (readsAs_any _).bind fun _ _ => readsAs_some (decide_eq_true ht)
  | revoke =>
    match body, hl with
    | [_, _, _, _, _, _], _ =>
      refine (readsAs_subjectField _ _ _ _ _).bind fun n hn => (readsAs_within 0 240 _).bind fun _ hd => readsAs_some ?_
      simp [Request.inRange, hn, hd]
  | clockSet =>
    refine (readsAs_clockField body).map fun x hx => ?_
    simp [Request.inRange, hx]
  | planSet =>
    match body, hl with
    | [_, _, _, _, _, _, _, _, _, _, _], _ =>
      exact (readsAs_any _).bind fun _ _ => (readsAs_any _).bind fun _ _ => (readsAs_any _).bind fun _ _ =>
        (readsAs_planMatchField _ _ _ _ _ _ _).bind fun _ hrule => readsAs_some hrule
  | linkSet =>
    match body, hl with
    | [_, _, _], _ =>
      exact (readsAs_any _).bind fun _ _ => (readsAs_any _).bind fun _ _ => (readsAs_any _).bind fun _ _ => readsAs_some rfl
  | setBudget =>
    match body, hl with
    | [_, hi, lo], _ =>
      have high : hi.toNat < 256 := hi.isLt
      have low : lo.toNat < 256 := lo.isLt
      refine (readsAs_any _).map fun _ _ => decide_eq_true ?_
      unfold word16
      omega
  | fuelPost =>
    match body, hl with
    | [_, _, _, _, _, _, _], _ =>
      refine (readsAs_subjectField _ _ _ _ _).bind fun n hn => (readsAs_within 0 100 _).bind fun _ hlevel =>
        (readsAs_any _).bind fun _ _ => readsAs_some ?_
      simp [Request.inRange, hn, hlevel]
  | checkAdd =>
    match body, hl with
    | [_, _, _, _, _, _, _], _ =>
      exact (readsAs_subjectField _ _ _ _ _).bind fun _ hn => (readsAs_any _).bind fun _ _ => (readsAs_any _).bind fun _ _ =>
        readsAs_some hn
  | checkClose =>
    match body, hl with
    | [_, _, _, _, _, _, _], _ =>
      refine (readsAs_tagField _ _ _ _).bind fun t ht => (readsAs_resultField _ _ _).bind fun result hr => readsAs_some ?_
      cases result with
      | fuel level refuelled => simpa [Request.inRange, hr level refuelled rfl] using ht
      | secure | ajar | damaged => exact decide_eq_true ht
  | feederGet =>
    match body, hl with
    | [_, _], _ =>
      exact (readsAs_any _).bind fun _ _ => (readsAs_within 0 47 _).bind fun _ hs => readsAs_some (decide_eq_true hs.2)
  | configSet =>
    match body, hl with
    | [_, _], _ => exact (readsAs_settingField _ _).map fun _ hv => hv
  | release =>
    match body, hl with
    | [_, _, _, _], _ => exact (readsAs_tagField _ _ _ _).map fun _ ht => decide_eq_true ht
  | recordGet | collect | defrostRequest | defrostCancel | holdSet | holdClear =>
    match body, hl with
    | [_, _, _, _, _], _ => exact (readsAs_subjectField _ _ _ _ _).map fun _ hn => hn
  | checkList =>
    match body, hl with
    | [_], _ => exact (readsAs_within 0 63 _).map fun _ hs => decide_eq_true hs.2
  | queueGet =>
    match body, hl with
    | [_], _ => exact (readsAs_within 0 47 _).map fun _ hs => decide_eq_true hs.2
  | zoneGet | scanChanged | planGet | linkGet =>
    match body, hl with
    | [_], _ => exact (readsAs_any _).map fun _ _ => rfl
  | sweepSeen | flushTags | clockTrim | clockGet | configGet | fetchNotice | holdNotices | releaseNotices | statusGet
  | yardRestart | nextCheck =>
    match body, hl with
    | [], _ => exact readsAs_some rfl

end Sys2Proof.Machine
end

section
/-! # The Yard Clock stays a time of the calendar -/

namespace Sys2Proof.Machine

open Sys2Proof

theorem monthLength_pos (year month : Nat) : 1 ≤ monthLength year month := by
  unfold monthLength
  split
  · split <;> decide
  all_goals decide

theorem YardTime.inRange_iff {t : YardTime} :
    t.inRange = true ↔ t.year ≤ 99 ∧ (1 ≤ t.month ∧ t.month ≤ 12) ∧ (1 ≤ t.day ∧ t.day ≤ monthLength t.year t.month) ∧
      t.hour ≤ 23 ∧ t.minute ≤ 59 ∧ t.second ≤ 59 := by
  simp only [YardTime.inRange, Bool.and_eq_true, decide_eq_true_eq, and_assoc]

theorem nextWeekday_range {w : Nat} (h : w ≤ 7) : 1 ≤ nextWeekday w ∧ nextWeekday w ≤ 7 := by
  unfold nextWeekday
  split <;> omega

/-- The next day is a day of the month, the first of the next month, or the first of the next year (R132). -/
theorem YardTime.nextDay_inRange {t : YardTime} (h : t.inRange = true) : t.nextDay.inRange = true := by
  rw [YardTime.inRange_iff] at h ⊢
  obtain ⟨hyear, ⟨hmonth, hmonth'⟩, ⟨hday, -⟩, -⟩ := h
  have midnight : 0 ≤ 23 ∧ 0 ≤ 59 ∧ 0 ≤ 59 := by decide
  unfold YardTime.nextDay
  simp only
  split
  · next within => exact ⟨hyear, ⟨hmonth, hmonth'⟩, ⟨Nat.le_add_left 1 _, within⟩, midnight⟩
  · split
    · next before => exact ⟨hyear, ⟨Nat.le_add_left 1 _, before⟩, ⟨le_refl 1, monthLength_pos _ _⟩, midnight⟩
    · refine ⟨?_, ⟨le_refl 1, (by decide : 1 ≤ 12)⟩, ⟨le_refl 1, monthLength_pos _ _⟩, midnight⟩
      show (if t.year < 99 then t.year + 1 else 0) ≤ 99
      split <;> omega

theorem Clock.nextMinute_ok {c : Clock} (h : c.ok) : c.nextMinute.ok := by
  obtain ⟨htime, hlow, hhigh⟩ := h
  obtain ⟨hyear, hmonth, hday, hhour, -, -⟩ := YardTime.inRange_iff.mp htime
  unfold Clock.nextMinute
  split
  · next minute => exact ⟨YardTime.inRange_iff.mpr ⟨hyear, hmonth, hday, hhour, minute, Nat.zero_le _⟩, hlow, hhigh⟩
  · split
    · next hour =>
      exact ⟨YardTime.inRange_iff.mpr ⟨hyear, hmonth, hday, hour, Nat.zero_le _, Nat.zero_le _⟩, hlow, hhigh⟩
    · exact ⟨YardTime.nextDay_inRange htime, nextWeekday_range hhigh⟩

theorem Clock.withSecond_ok {c : Clock} (h : c.ok) {n : Nat} (hn : n ≤ 59) :
    ({ c with time := { c.time with second := n } } : Clock).ok := by
  obtain ⟨htime, hweekday⟩ := h
  obtain ⟨hyear, hmonth, hday, hhour, hminute, -⟩ := YardTime.inRange_iff.mp htime
  exact ⟨YardTime.inRange_iff.mpr ⟨hyear, hmonth, hday, hhour, hminute, hn⟩, hweekday⟩

theorem Clock.tick_ok {c : Clock} (h : c.ok) : c.tick.ok := by
  unfold Clock.tick
  split
  · exact Clock.nextMinute_ok h
  · next before =>
    refine Clock.withSecond_ok h ?_
    simp only [Clock.aboutToRoll, decide_eq_true_eq] at before
    omega

theorem Clock.cold_ok : Clock.cold.ok := ⟨by decide, by decide, by decide⟩

end Sys2Proof.Machine
end

section
/-! # Steps that keep the ranges: the estimates, the requests held, and the clock -/

namespace Sys2Proof.Machine

open Sys2Proof

/-- What comes of a part in range is in range: of the estimates with the requests held, where `given` is granted of the request
at work, and of the clock in any case. -/
def State.KeepsRanges (given : Prop) (s t : State) : Prop :=
  (given → s.heldOk → s.estimatesOk → t.heldOk ∧ t.estimatesOk) ∧ (s.clock.ok → t.clock.ok)

theorem heldOk_of_ports {s t : State} (h : t.ports = s.ports) (held : s.heldOk) : t.heldOk := by
  intro p req hreq
  refine held p req ?_
  rwa [State.port, ← h]

theorem heldOk_of_cold {s : State} (h : s.ports = Ports.cold) : s.heldOk := by
  intro p req hreq
  rw [State.port, h] at hreq
  cases p <;> cases hreq

theorem clock_of_outsideScheduler {s t : State} (h : t.outsideScheduler = s.outsideScheduler) : t.clock = s.clock := by
  have clock : t.outsideScheduler.clock = s.outsideScheduler.clock := congrArg State.clock h
  exact clock

theorem ports_of_outsideScheduler {s t : State} (h : t.outsideScheduler = s.outsideScheduler) : t.ports = s.ports := by
  have ports : t.outsideScheduler.ports = s.outsideScheduler.ports := congrArg State.ports h
  exact ports

namespace State.KeepsRanges

variable {given : Prop} {s t u : State}

theorem refl (s : State) : KeepsRanges given s s := ⟨fun _ held ok => ⟨held, ok⟩, id⟩

theorem trans (h : KeepsRanges given s t) (k : KeepsRanges given t u) : KeepsRanges given s u := by
  refine ⟨fun hgiven held ok => ?_, fun hclock => k.2 (h.2 hclock)⟩
  obtain ⟨heldt, okt⟩ := h.1 hgiven held ok
  exact k.1 hgiven heldt okt

/-- A fact that is granted need not be given. -/
theorem of_given {fact : Prop} (h : KeepsRanges fact s t) (granted : given → s.heldOk → fact) : KeepsRanges given s t :=
  ⟨fun hgiven held => h.1 (granted hgiven held) held, h.2⟩

/-- A change that leaves the ports and the clock. -/
theorem of_estimates (h : given → s.estimatesOk → t.estimatesOk) (ports : t.ports = s.ports)
    (clock : t.clock = s.clock) : KeepsRanges given s t :=
  ⟨fun hgiven held ok => ⟨heldOk_of_ports ports held, h hgiven ok⟩, fun hclock => by rwa [clock]⟩

/-- A change of nothing but what the Defrost Scheduler, the records, the notices and the Check List are. -/
theorem of_frame (frame : t.outsideScheduler = s.outsideScheduler) (h : given → s.estimatesOk → t.estimatesOk) :
    KeepsRanges given s t :=
  of_estimates h (ports_of_outsideScheduler frame) (clock_of_outsideScheduler frame)

theorem of_notices (frame : t.outsideNotices = s.outsideNotices) : KeepsRanges given s t :=
  of_frame (outsideScheduler_of_outsideNotices frame) fun _ ok => ok.of_outsideNotices frame

/-- A change of nothing that the ranges are about. -/
theorem of_same (h : (t.records, t.ports, t.clock) = (s.records, s.ports, s.clock)) : KeepsRanges given s t := by
  obtain ⟨records, rest⟩ := Prod.mk.inj h
  obtain ⟨ports, clock⟩ := Prod.mk.inj rest
  exact of_estimates (fun _ ok => ok.of_records records) ports clock

/-- A port may come to hold a request in range. -/
theorem setPort (p : PortId) (x : Port)
    (h : given → s.heldOk → ∀ req, x.activity = .waiting (.request req) → req.inRange) :
    KeepsRanges given s (s.setPort p x) := by
  refine ⟨fun hgiven held ok => ⟨fun q req hreq => ?_, ok⟩, id⟩
  by_cases hpq : p = q
  · subst hpq
    rw [State.port_setPort_self] at hreq
    exact h hgiven held req hreq
  · rw [State.port_setPort_ne _ _ hpq] at hreq
    exact held q req hreq

theorem setActivity (p : PortId) (a : PortActivity) (h : given → ∀ req, a = .waiting (.request req) → req.inRange) :
    KeepsRanges given s (s.setActivity p a) := setPort p _ fun hgiven _ => h hgiven

/-- A port that goes on with what it is doing. -/
theorem setPort_same (p : PortId) (x : Port) (h : x.activity = (s.port p).activity) :
    KeepsRanges given s (s.setPort p x) := setPort p x fun _ held req hreq => held p req (h ▸ hreq)

theorem beginReply (p : PortId) (kind : Byte) (body : ReplyBody) : KeepsRanges given s (s.beginReply p kind body) := by
  refine setActivity p _ fun _ req hreq => ?_
  split at hreq <;> cases hreq

/-! ## Operations -/

theorem updRecord (i : RecIdx) (f : TrailerRecord → TrailerRecord)
    (hf : ∀ r, r.estimatesOk → (f r).estimatesOk) : KeepsRanges given s (s.updRecord i f) :=
  of_frame (outsideScheduler_of_outsideRecords (s.updRecord_frame i f)) fun _ ok => ok.updRecord i f hf

theorem raise (e : Event) : KeepsRanges given s (s.raise e) := of_notices (s.raise_frame e)

theorem evaluateDemand (i : RecIdx) : KeepsRanges given s (s.evaluateDemand i) :=
  of_frame (s.evaluateDemand_frame i) fun _ ok => ok.evaluateDemand i

theorem grantPass : KeepsRanges given s s.grantPass := of_frame s.grantPass_frame fun _ ok => ok.grantPass

/-- The end of a defrost and the pass that follows it. -/
theorem endDefrost_grantPass (i : RecIdx) (k : EndKind) : KeepsRanges given s (s.endDefrost i k).grantPass :=
  trans (of_frame (s.endDefrost_frame i k) fun _ ok => ok.endDefrost i k) grantPass

theorem postFuel (i : RecIdx) {level : Nat} (hlevel : given → level ≤ 100) (refuelled : Bool) :
    KeepsRanges given s (s.postFuel i level refuelled) :=
  of_frame (outsideScheduler_of_outsideRecords (s.postFuel_frame i level refuelled)) fun hgiven ok =>
    ok.postFuel i (hlevel hgiven) refuelled

theorem lookup (w : Waiter) (t : Tag) : KeepsRanges given s (s.lookup w t).1 := by
  obtain ⟨c, e, l, h⟩ := s.lookup_frame w t
  rw [h]
  exact of_same rfl

/-! ## Consequences of a tick -/

theorem take (e : TickEvent) : KeepsRanges given s (s.take e) := of_frame (s.take_frame e) fun _ ok => ok.take e

theorem takeAll (l : List TickEvent) : KeepsRanges given s (State.takeAll l s) := by
  induction l generalizing s with
  | nil => exact of_same rfl
  | cons e rest ih => exact (trans (t := { s with due := rest }) (of_same rfl) (take e)).trans ih

theorem settle : KeepsRanges given s s.settle := takeAll s.due

theorem takeDue (e : TickEvent) : KeepsRanges given s (s.takeDue e) := by
  unfold State.takeDue
  split
  · exact trans (t := { s with due := s.due.erase e }) (of_same rfl) (take e)
  · exact refl s

/-- The clock set to another time of the calendar. -/
theorem setClock {c : Clock} (h : s.clock.ok → c.ok) : KeepsRanges given s { s with clock := c } :=
  ⟨fun _ held ok => ⟨held, ok⟩, h⟩

/-- A tick in service advances the fuel ages and the clock (R65, R132). -/
theorem countTick : KeepsRanges given s s.countTick := by
  have ports : s.countTick.ports = s.ports := by rw [s.countTick_frame]
  have clock : s.countTick.clock = s.clock.tick := by rw [s.countTick_frame]
  refine ⟨fun _ held ok => ⟨heldOk_of_ports ports held, fun i r hr => ?_⟩, fun hclock => ?_⟩
  · obtain ⟨old, hold, rfl⟩ := State.record?_countTick_eq_some.mp hr
    exact TrailerRecord.tick_estimatesOk (ok i old hold)
  · rw [clock]
    exact Clock.tick_ok hclock

theorem secondTick : KeepsRanges given s s.secondTick := by
  unfold State.secondTick
  split
  · exact countTick
  · split
    · exact refl s
    · exact setClock Clock.tick_ok
  · exact refl s

end State.KeepsRanges

end Sys2Proof.Machine
end

section
/-! # Requests keep the ranges -/

namespace Sys2Proof.Machine

open Sys2Proof

namespace State.KeepsRanges

variable {given : Prop} {s : State}

/-! ## Requests on a resolved trailer -/

theorem setRecord (i : RecIdx) {x : Option TrailerRecord} (h : ∀ r, x = some r → s.estimatesOk → r.estimatesOk) :
    KeepsRanges given s (s.setRecord i x) :=
  of_estimates (fun _ ok => ok.setRecord i fun r hr => h r hr ok) rfl rfl

theorem setBay (b : BayAddr) (e : BayEntry) : KeepsRanges given s (s.setBay b e) := of_same rfl

theorem invalidateTag (t : Tag) : KeepsRanges given s (s.invalidateTag t) := of_same rfl

theorem doMove (i : RecIdx) (t : Tag) (b : BayAddr) : KeepsRanges given s (s.doMove i t b).1 := by
  rcases s.doMove_cases i t b with h | ⟨r, hr, -, h⟩ <;> rw [h]
  · exact refl s
  · refine (((setBay r.bay _).trans (setBay b _)).trans (setRecord i ?_)).trans (invalidateTag t)
    rintro _ ⟨⟩ ok
    exact TrailerRecord.marking_estimatesOk (ok i r hr)

theorem releaseDefrost (i : RecIdx) : KeepsRanges given s (s.releaseDefrost i) := by
  unfold State.releaseDefrost
  split
  · exact endDefrost_grantPass i _
  · exact of_same rfl

theorem forgetCommands (i : RecIdx) : KeepsRanges given s (s.forgetCommands i) :=
  (updRecord i (fun r => { r with slot := .empty }) fun _ => id).trans (of_same rfl)

theorem forgetChecks (t : Tag) : KeepsRanges given s (s.forgetChecks t) := of_same rfl

theorem freed (i : RecIdx) (b : BayAddr) (t : Tag) : KeepsRanges given s (s.freed i b t) :=
  ((invalidateTag t).trans (setBay b _)).trans (setRecord i fun _ h => nomatch h)

theorem doRelease (i : RecIdx) (t : Tag) : KeepsRanges given s (s.doRelease i t).1 := by
  cases hr : s.record? i with
  | none =>
    rw [State.doRelease_of_none hr]
    exact refl s
  | some r =>
    rw [State.doRelease_of_some hr]
    exact (((releaseDefrost i).trans (forgetCommands i)).trans (forgetChecks t)).trans (freed i r.bay t)

theorem doDefrostRequest (m : Master) (i : RecIdx) : KeepsRanges given s (s.doDefrostRequest m i).1 := by
  have unlatched : KeepsRanges given s (s.updRecord i fun r => { r with cancelLatch := false }) := updRecord i _ fun _ => id
  unfold State.doDefrostRequest
  split
  · exact refl s
  · split
    · exact refl s
    · refine (unlatched.trans ?_).trans grantPass
      split
      · exact trans (of_frame (State.joinQueue_frame i _ _ _ _) fun _ ok => ok.joinQueue i _ _ _) (raise _)
      · exact of_same rfl

theorem doDefrostCancel (i : RecIdx) : KeepsRanges given s (s.doDefrostCancel i).1 := by
  unfold State.doDefrostCancel
  simp only
  split
  · exact trans (t := s.leaveQueue i) (of_same rfl) (updRecord i _ fun _ => id)
  · split
    · exact endDefrost_grantPass i _
    · exact updRecord i _ fun _ => id
  · exact refl s

theorem doHoldClear (i : RecIdx) : KeepsRanges given s (s.doHoldClear i).1 := by
  have removed : KeepsRanges given s (s.removeActivity i .serviceHold) :=
    of_frame (outsideScheduler_of_outsideRecords (s.removeActivity_frame i _)) fun _ ok => ok.removeActivity i _
  unfold State.doHoldClear
  simp only
  split
  · exact (removed.trans (evaluateDemand i)).trans grantPass
  · exact removed

theorem closeItem (m : Master) (i : RecIdx) (t : Tag) {result : CloseResult}
    (h : given → ∀ level refuelled, result = .fuel level refuelled → level ≤ 100) :
    KeepsRanges given s (s.closeItem m i t result) := by
  have closed : KeepsRanges given s { s with checks := s.checks.filter fun it => !it.isFor t result.kind } := of_same rfl
  cases result with
  | secure | ajar => exact closed
  | damaged => exact closed.trans (raise _)
  | fuel level refuelled => exact closed.trans (postFuel i (fun hgiven => h hgiven level refuelled rfl) refuelled)

/-- A request in range on a resolved trailer keeps the ranges. -/
theorem actOn (m : Master) (req : Request) (res : Resolved) :
    KeepsRanges (req.inRange = true) s (s.actOn m req res).1 := by
  cases req with
  | recordGet n =>
    show KeepsRanges _ s (s.doRecordGet m res.record).1
    unfold State.doRecordGet
    split <;> exact refl s
  | collect n =>
    show KeepsRanges _ s (s.doCollect res.record).1
    unfold State.doCollect
    split
    · exact refl s
    · next r hr =>
      refine setRecord res.record ?_
      rintro _ ⟨⟩ ok
      exact ok res.record r hr
  | recordEdit n load override =>
    show KeepsRanges _ s (s.doRecordEdit res.record load override).1
    unfold State.doRecordEdit
    split
    · exact refl s
    · split
      · exact refl s
      · exact updRecord res.record _ fun _ => id
  | move t b => exact doMove res.record t b
  | release t => exact doRelease res.record t
  | defrostRequest n => exact doDefrostRequest m res.record
  | defrostCancel n => exact doDefrostCancel res.record
  | holdSet n =>
    show KeepsRanges _ s (s.doHoldSet m res.record).1
    unfold State.doHoldSet
    split
    · exact refl s
    · exact of_frame (outsideScheduler_of_outsideRecords (s.pushActivity_frame _ _ _)) fun _ ok => ok.pushActivity _ _ _
  | holdClear n =>
    simp only [State.actOn]
    split
    · exact doHoldClear res.record
    · exact refl s
  | fuelPost n level refuelled =>
    refine postFuel res.record (fun h => ?_) refuelled
    simp only [Request.inRange, Bool.and_eq_true, decide_eq_true_eq] at h
    exact h.2
  | checkAdd n k p => exact of_notices (s.doCheckAdd_frame res.record k p)
  | checkClose t result =>
    simp only [State.actOn]
    split
    · refine closeItem m res.record t ?_
      rintro h level refuelled rfl
      simp only [Request.inRange, Bool.and_eq_true, decide_eq_true_eq] at h
      exact h.2
    · exact refl s
  | revoke n deferral =>
    simp only [State.actOn]
    split
    · exact endDefrost_grantPass res.record _
    · exact refl s
  | _ => exact refl s

theorem judge (m : Master) (req : Request) (n : Subject) (res : Resolved) :
    KeepsRanges (req.inRange = true) s (s.judge m req n res).1 := by
  unfold State.judge
  split
  · exact raise _
  · split
    · exact refl s
    · exact actOn m req res

/-! ## Requests that name no placed trailer -/

theorem doPlace (t : Tag) (b : BayAddr) (source : Option Source) (load : Option Nat) :
    KeepsRanges given s (s.doPlace t b source load).1 := by
  unfold State.doPlace
  split
  · exact refl s
  · split
    · exact refl s
    · refine ((setRecord _ ?_).trans (setBay b _)).trans (invalidateTag t)
      rintro _ ⟨⟩ -
      exact TrailerRecord.placed_estimatesOk _ _ _ _ _

theorem doClockTrim : KeepsRanges given s s.doClockTrim.1 := by
  unfold State.doClockTrim
  split
  · split
    · exact (setClock Clock.nextMinute_ok).trans (of_notices (State.testPlans_frame _))
    · exact setClock fun hclock => Clock.withSecond_ok hclock (Nat.zero_le _)
  · exact refl s

theorem doSetBudget (f : FeederNo) (value : Nat) : KeepsRanges given s (s.doSetBudget f value).1 := by
  have set : KeepsRanges given s (s.setFeeder f { s.feeders[f] with budget := min value Config.maxBudget }) := of_same rfl
  unfold State.doSetBudget
  simp only
  split
  · exact set.trans grantPass
  · split
    · exact set.trans (trans (of_frame (State.cutGrants_frame f _ _) fun _ ok => ok.cutGrants f _) grantPass)
    · exact set

theorem doSweepSeen : KeepsRanges given s s.doSweepSeen.1 := by
  have ports : s.doSweepSeen.1.ports = s.ports := by simp only [State.doSweepSeen]
  have clock : s.doSweepSeen.1.clock = s.clock := by simp only [State.doSweepSeen]
  refine of_estimates (fun _ ok i r hr => ?_) ports clock
  have swept : (s.record? i).map (fun x => { x with seen := false }) = some r := by
    simpa [State.doSweepSeen, State.record?] using hr
  obtain ⟨x, hx, rfl⟩ := Option.map_eq_some_iff.mp swept
  exact ok i x hx

/-- A request in range that names no placed trailer keeps the ranges. -/
theorem actPlain (m : Master) {req : Request} (hreq : req.inRange = true) : KeepsRanges given s (s.actPlain m req).1 := by
  cases req with
  | zoneSet z e =>
    show KeepsRanges given s (s.doZoneSet z e).1
    rw [State.doZoneSet_eq]
    split <;> exact of_same rfl
  | baySet b rights locked => exact of_same rfl
  | sweepSeen =>
    exact doSweepSeen
  | clockSet t w =>
    simp only [Request.inRange, Bool.and_eq_true, decide_eq_true_eq] at hreq
    obtain ⟨⟨ht, low⟩, high⟩ := hreq
    exact setClock fun _ => ⟨ht, low, high⟩
  | clockTrim => exact doClockTrim
  | configSet v =>
    cases v with
    | attention m mode =>
      show KeepsRanges given s (s.setAttention m mode)
      unfold State.setAttention
      split <;> exact of_same rfl
    | _ => exact of_same rfl
  | fetchNotice =>
    show KeepsRanges given s (s.doFetch m).1
    unfold State.doFetch
    simp only
    split <;> exact of_same rfl
  | releaseNotices => exact of_notices (s.closeWindow_frame m)
  | setBudget f value => exact doSetBudget f value
  | _ => exact of_same rfl

/-! ## Lookups, and requests that wait for them -/

theorem hold (m : Master) (req : Request) : KeepsRanges (req.inRange = true) s (s.hold m req).1 := by
  refine setActivity m.port _ ?_
  rintro h _ ⟨⟩
  exact h

theorem goOn (m : Master) (req : Request) (a : Answer) : KeepsRanges (req.inRange = true) s (s.goOn m req a).1 := by
  unfold State.goOn
  split
  · exact hold m req
  · split
    · exact refl s
    · split
      · exact judge m req _ _
      · exact refl s
  · split
    · exact doPlace _ _ _ _
    · split <;> exact refl s

theorem lookupFor (m : Master) (req : Request) (t : Tag) :
    KeepsRanges (req.inRange = true) s (s.lookupFor m req t).1 := (lookup (.master m) t).trans (goOn m req _)

theorem offerItems (m : Master) (n : Nat) (considered : List Nat) :
    KeepsRanges given s (s.offerItems m n considered).1 := by
  induction n generalizing considered s with
  | zero => exact refl s
  | succ n ih =>
    unfold State.offerItems
    split
    · exact refl s
    · next it _ =>
      have looked : KeepsRanges given s (s.lookup (.master m) it.tag).1 := lookup _ _
      split <;> rename_i heq <;> rw [heq] at looked
      · split
        · exact looked.trans (of_same rfl)
        · exact looked.trans (ih _)
      · exact looked.trans (ih _)
      · exact looked.trans (setActivity m.port _ fun _ => nofun)

theorem resumeNextCheck (m : Master) (considered : List Nat) (item : Nat) (a : Answer) :
    KeepsRanges given s (s.resumeNextCheck m considered item a).1 := by
  unfold State.resumeNextCheck
  simp only
  split
  · split
    · exact of_same rfl
    · exact offerItems m _ _
  · exact offerItems m _ _

/-- A master request in range keeps the ranges, and is held with them where its lookup waits. -/
theorem takeRequest (m : Master) {req : Request} (hreq : req.inRange = true) :
    KeepsRanges given s (s.takeRequest m req).1 := by
  unfold State.takeRequest
  split
  · unfold State.startNextCheck
    split
    · exact refl s
    · exact offerItems m _ _
  · split
    · exact (lookupFor m _ _).of_given fun _ _ => hreq
    · exact refl s
  · split
    · exact actPlain m hreq
    · exact (lookupFor m req _).of_given fun _ _ => hreq
    · split
      · exact refl s
      · exact (judge m req _ _).of_given fun _ _ => hreq

theorem answer {r : State × Option MasterReply} (h : KeepsRanges given s r.1) (m : Master) (kind : Byte) :
    KeepsRanges given s (State.answer m kind r) := by
  unfold State.answer
  split
  · exact h.trans (beginReply _ _ _)
  · exact h

/-! ## The Report Intake -/

theorem dropHead : KeepsRanges given s s.dropHead := of_same rfl

theorem discardUnknown (u : UnitReport) : KeepsRanges given s (s.discardUnknown u) := (raise _).trans dropHead

theorem answerIntake (a : Answer) : KeepsRanges given s (s.answerIntake a) := by
  unfold State.answerIntake
  split
  · exact of_same rfl
  · exact discardUnknown _
  · exact of_same rfl
  · exact of_same rfl

theorem takeHead : KeepsRanges given s s.takeHead := by
  unfold State.takeHead
  split
  · split
    · exact of_same rfl
    · exact (lookup _ _).trans (answerIntake _)
  · exact refl s

theorem applyHead : KeepsRanges given s s.applyHead := by
  unfold State.applyHead
  split
  · split
    · exact discardUnknown _
    · split
      · exact discardUnknown _
      · split
        · exact of_same rfl
        · split
          · exact of_same rfl
          · exact trans (of_frame (s.applyReport_frame _ _ _ _) fun _ ok => ok.applyReport _ _ _ _) dropHead
  · exact refl s

theorem arrive (u : UnitReport) : KeepsRanges given s (s.arrive u).1 := by
  unfold State.arrive
  split
  · exact of_same rfl
  · exact raise _

/-! ## Frames and searches -/

theorem replyUnit (kind : Byte) (status : UnitStatus) : KeepsRanges given s (s.replyUnit kind status) :=
  trans (of_frame (outsideScheduler_of_outsideRecords s.sendHead_frame) fun _ ok => ok.sendHead) (beginReply _ _ _)

theorem takeUnit (k : Kind) (body : List Byte) : KeepsRanges given s (s.takeUnit k body) := by
  unfold State.takeUnit
  split
  · exact (arrive _).trans (replyUnit _ _)
  · exact replyUnit _ _

theorem judgeFrame (p : PortId) (kind : Byte) (body : List Byte) : KeepsRanges given s (s.judgeFrame p kind body) := by
  unfold State.judgeFrame
  split
  · exact beginReply _ _ _
  · split
    · exact beginReply _ _ _
    · split
      · exact beginReply _ _ _
      · next hlength =>
        split
        · exact takeUnit _ body
        · split
          · exact beginReply _ _ _
          · next req hparse =>
            exact answer (takeRequest _ (inRange_of_parse (not_not.mp hlength) req hparse)) _ kind

theorem receiveFrame (p : PortId) (kind : Byte) (body : List Byte) :
    KeepsRanges given s (State.receiveFrame p kind body s) := by
  by_cases hsupply : s.supply = .inService
  · have received : KeepsRanges given s (s.received p) := setPort_same p _ rfl
    rw [receiveFrame_inService hsupply]
    refine received.trans ?_
    split
    · exact judgeFrame p kind body
    · unfold State.oweBusy
      split
      · exact refl _
      · exact refl _
      · exact setPort_same p _ rfl
  · rw [receiveFrame_outOfService hsupply]
    exact refl s

theorem setReceiver (p : PortId) (r : Receiver) : KeepsRanges given s (State.setReceiver p r s) := by
  unfold State.setReceiver
  split
  · exact setPort_same p _ rfl
  · exact refl s

theorem completeReply (p : PortId) : KeepsRanges given s (s.completeReply p) := by
  have after : ∀ x : Port, ∀ req, x.afterReply.activity ≠ .waiting (.request req) := by
    intro x req
    unfold Port.afterReply
    split <;> nofun
  have afterRestart : ∀ x : Port, ∀ req, x.afterRestartReply.activity ≠ .waiting (.request req) := by
    intro x req
    unfold Port.afterRestartReply
    split <;> nofun
  unfold State.completeReply
  simp only
  split
  · exact refl s
  · split
    · split
      · exact trans (setPort p _ fun _ _ req hreq => absurd hreq (afterRestart _ req)) (of_same rfl)
      · exact setPort p _ fun _ _ req hreq => absurd hreq (after _ req)
    · exact setPort p _ fun _ _ => nofun
    all_goals exact refl s

/-- A request a port holds goes on in range. -/
theorem deliver (w : Waiter) (a : Answer) : KeepsRanges given s (s.deliver w a) := by
  unfold State.deliver
  split
  · exact answerIntake a
  · next m =>
    split
    · next held hport =>
      refine answer ?_ m _
      cases held with
      | request req => exact (goOn m req a).of_given fun _ heldOk => heldOk m.port req hport
      | nextCheck considered item => exact resumeNextCheck m considered item a
    all_goals exact refl s

theorem completeSearch : KeepsRanges given s s.completeSearch := by
  unfold State.completeSearch
  split
  · exact refl s
  · next q _ =>
    obtain ⟨c, h⟩ := State.searchResult_frame q.tag s
    have searched : KeepsRanges given s (s.searchResult q.tag).1 := by
      rw [h]
      exact of_same rfl
    exact (searched.trans (deliver q.waiter _)).trans (of_same rfl)

/-! ## Supplies -/

/-- A part all of whose tables are cold is in range. -/
theorem of_cold {t : State} (records : t.records = Vector.replicate 48 none) (ports : t.ports = Ports.cold)
    (clock : t.clock = Clock.cold) : KeepsRanges given s t := by
  refine ⟨fun _ _ _ => ⟨heldOk_of_cold ports, fun i r hr => ?_⟩, fun _ => ?_⟩
  · rw [State.record?, records] at hr
    simp at hr
  · rw [clock]
    exact Clock.cold_ok

theorem warmRestart (cause : RestartCause) (strap : Bool) : KeepsRanges given s (s.warmRestart cause strap) := by
  have clock : (s.warmRestart cause strap).clock = s.clock := by
    simp only [State.warmRestart, State.rebuildQueue, State.clearVolatile]
  refine ⟨fun _ _ ok => ⟨heldOk_of_cold rfl, fun i r hr => ?_⟩, fun hclock => by rwa [clock]⟩
  rw [State.warmRestart_record?] at hr
  obtain ⟨old, hold, rfl⟩ := Option.map_eq_some_iff.mp hr
  exact TrailerRecord.restarted_estimatesOk (ok i old hold) _

theorem failMains : KeepsRanges given s s.failMains := by
  unfold State.failMains
  split
  · exact ⟨fun _ _ ok => ⟨heldOk_of_cold rfl, ok⟩, fun hclock => hclock⟩
  · exact refl s
  · exact refl s

theorem returnMains (strap : Bool) : KeepsRanges given s (s.returnMains strap) := by
  unfold State.returnMains
  split
  · split
    · exact of_cold rfl rfl rfl
    · exact warmRestart _ strap
  · exact refl s
  · exact refl s

theorem yardRestart (strap : Bool) : KeepsRanges given s (s.yardRestart strap) := by
  unfold State.yardRestart
  split
  · exact warmRestart _ strap
  · exact refl s

theorem applySupply : KeepsRanges given s s.applySupply := by
  unfold State.applySupply
  split <;> exact of_same rfl

theorem endPulse (m : Master) : KeepsRanges given s (s.endPulse m) := by
  unfold State.endPulse
  split <;> exact of_same rfl

theorem whenInService {f : State → State} (h : KeepsRanges given s (f s)) :
    KeepsRanges given s (s.whenInService f) := by
  unfold State.whenInService
  split
  · exact h
  · exact refl s

end State.KeepsRanges

/-! ## Every command -/

/-- Every command keeps the ranges. -/
theorem exec_keepsRanges {c : Instr} {s t : State} (h : exec c s = .next t) : State.KeepsRanges True s t := by
  have settled : State.KeepsRanges True s s.settle := .settle
  cases c with
  | unitReport p body | poll p body | unknownKind p kind body | portBusy p kind body | zoneSet p body | zoneGet p body
  | baySet p body | place p body | move p body | release p body | recordGet p body | recordEdit p body | collect p body
  | scanChanged p body | sweepSeen p body | flushTags p body | clockSet p body | clockTrim p body | clockGet p body
  | planSet p body | planGet p body | linkSet p body | linkGet p body | configSet p body | configGet p body
  | defrostRequest p body | defrostCancel p body | holdSet p body | holdClear p body | fuelPost p body | checkAdd p body
  | checkClose p body | checkList p body | queueGet p body | feederGet p body | fetchNotice p body | holdNotices p body
  | releaseNotices p body | statusGet p body | yardRestart p body | setBudget p body | revoke p body | nextCheck p body =>
    cases h
    exact settled.trans (.receiveFrame p _ body)
  | frameCheckFail p | interbyteTimeout p | syncByte p =>
    cases h
    exact settled.trans (.setReceiver p _)
  | bodyLengthAbove120 p length =>
    cases h
    split
    · exact settled.trans (.setReceiver p _)
    · exact settled
  | replyComplete p =>
    cases h
    exact settled.trans (.whenInService (.completeReply p))
  | searchComplete =>
    cases h
    exact settled.trans (.whenInService .completeSearch)
  | takeHead =>
    cases h
    exact settled.trans (.whenInService .takeHead)
  | reportApplication =>
    cases h
    exact settled.trans (.whenInService .applyHead)
  | pulseEnd m =>
    cases h
    exact settled.trans (.whenInService (.endPulse m))
  | minuteRollover | unitSilent i | doorOpenLong i | abandoned i | timedOut i | defrostNotBeforeZero i | cmdUnconfirmed i
  | checkTimeout i k | suppressionWindowExpiry m =>
    cases h
    exact .takeDue _
  | secondTick =>
    cases h
    exact settled.trans .secondTick
  | restartAct strap =>
    cases h
    exact settled.trans (.yardRestart strap)
  | supplyApplied =>
    cases h
    exact settled.trans .applySupply
  | mfailAsserted =>
    cases h
    exact settled.trans .failMains
  | mfailReleased strap =>
    cases h
    exact settled.trans (.returnMains strap)
  | supplyLoss =>
    cases h
    exact .of_cold rfl rfl rfl

/-- A step runs the command at the front of the queue, or idles. -/
theorem step_keepsRanges {s t : State} (h : step s = .next t) : State.KeepsRanges True s t := by
  unfold step at h
  split at h
  · cases h
    exact .refl s
  · next c rest _ => exact exec_keepsRanges (s := { s with pending := rest }) h

/-- Settles O59, by the command at the front of the queue. -/
theorem estimatesAndClockAreKept : Obligations.EstimatesAndClockAreKept := by
  refine ⟨fun s t held ok h => ?_, fun s t hclock h => ?_⟩
  · obtain ⟨estimates, -⟩ := step_keepsRanges h
    exact estimates trivial held ok
  · obtain ⟨-, clock⟩ := step_keepsRanges h
    exact clock hclock

end Sys2Proof.Machine
end

section
/-! # The restoring division, the runway and fuel-low -/

namespace Sys2Proof.Machine

open Sys2Proof

/-- One digit more of the dividend moves into the partial remainder. -/
theorem partialRem_shift (n bits rem : Nat) :
    rem * 2 ^ (bits + 1) + n % 2 ^ (bits + 1) = (2 * rem + n / 2 ^ bits % 2) * 2 ^ bits + n % 2 ^ bits := by
  rw [Nat.mod_pow_succ, pow_succ]
  ring

/-- What is left of a restoring division, from any partial remainder below the divisor: the quotient so far takes the digits of
the rest. -/
theorem restoringDivide_eq (n : Nat) {d : Nat} (bits rem quo : Nat) (hrem : rem < d) :
    restoringDivide n d bits rem quo = quo * 2 ^ bits + (rem * 2 ^ bits + n % 2 ^ bits) / d := by
  induction bits generalizing rem quo with
  | zero => simp [restoringDivide, Nat.mod_one, Nat.div_eq_of_lt hrem]
  | succ bits ih =>
    rw [partialRem_shift, restoringDivide]
    have hp : 2 * rem + n / 2 ^ bits % 2 < 2 * d := by omega
    generalize 2 * rem + n / 2 ^ bits % 2 = p at hp ⊢
    split
    · next hd =>
      obtain ⟨q, rfl⟩ := Nat.exists_eq_add_of_le hd
      have carried : (d + q) * 2 ^ bits + n % 2 ^ bits = (q * 2 ^ bits + n % 2 ^ bits) + d * 2 ^ bits := by ring
      rw [Nat.add_sub_cancel_left, ih q _ (by omega), carried, Nat.add_mul_div_left _ _ (by omega)]
      ring
    · next hd =>
      rw [ih p _ (by omega)]
      ring

theorem restoringDivide_eq_div {n d bits : Nat} (hd : 1 ≤ d) (hn : n < 2 ^ bits) : restoringDivide n d bits 0 0 = n / d := by
  rw [restoringDivide_eq n bits 0 0 hd, Nat.mod_eq_of_lt hn]
  simp

/-- The runway of a level at a known rate is a quotient that sixteen digits hold (R70). -/
theorem runwayOf_eq_restoringDivide {level b : Nat} (hlevel : level ≤ 100) (hb : 1 ≤ b) :
    runwayOf level b = restoringDivide (level * 600) b 16 0 0 := by
  rw [restoringDivide_eq_div hb (by omega), runwayOf, if_neg (by omega)]

theorem runwayOf_le {level b : Nat} (hlevel : level ≤ 100) (hb : 1 ≤ b) : runwayOf level b ≤ 60000 := by
  have quotient := Nat.div_le_self (level * 600) b
  rw [runwayOf, if_neg (by omega)]
  omega

/-- Table 4-6: the conditions for on and for off exclude each other, and between them fuel-low stays. -/
theorem fuelLowAfter_true_iff (z : Zone) (low : Bool) (level b runway : Nat) :
    fuelLowAfter z low level b runway = true ↔
      if low then ¬ (z.fuelFloor + 5 ≤ level ∧ (b = 0 ∨ z.fuelMargin + 60 ≤ runway))
      else level < z.fuelFloor ∨ (0 < b ∧ runway < z.fuelMargin) := by
  cases low with
  | false => simp [fuelLowAfter]
  | true => simp [fuelLowAfter, or_iff_not_imp_left]

/-- Settles O24, by induction on the digits that the division still has to develop. -/
theorem fuelIsReckoned : Obligations.FuelIsReckoned := by
  refine ⟨fun _ _ _ hd hn => restoringDivide_eq_div hd hn,
    fun _ _ hlevel hb => ⟨runwayOf_eq_restoringDivide hlevel hb, runwayOf_le hlevel hb⟩,
    fun z level b runway => ⟨fun on low => ?_, fun off low => ?_, fun notOn notOff low => ?_⟩⟩
  · rw [fuelLowAfter_true_iff]
    cases low with
    | false => exact on
    | true => exact fun ⟨_, _⟩ => by omega
  · rw [← Bool.not_eq_true, fuelLowAfter_true_iff]
    cases low with
    | false => exact fun on => by simp only [Bool.false_eq_true, if_false] at on; omega
    | true => exact fun stays => stays off
  · cases low with
    | false => rw [← Bool.not_eq_true, fuelLowAfter_true_iff]; exact notOn
    | true => rw [fuelLowAfter_true_iff]; exact notOff

end Sys2Proof.Machine
end

section
/-! # Fuel readings and fuel postings -/

namespace Sys2Proof.Machine

open Sys2Proof

/-! ## Writes of a record with its changed flag -/

/-- A changed record is the new one, but for its changed flag. -/
theorem TrailerRecord.marking_eq (old new : TrailerRecord) : ∃ c, old.marking new = { new with changed := c } := by
  unfold TrailerRecord.marking
  split
  · exact ⟨new.changed, rfl⟩
  · exact ⟨true, rfl⟩

section
variable {s : State} {i : RecIdx} {r : TrailerRecord} (hr : s.record? i = some r) {f : TrailerRecord → TrailerRecord}
include hr

/-- A write that moves the fuel reference sets the changed flag (R21). -/
theorem State.updRecord_of_fuelRef_ne (h : (f r).fuelRef ≠ r.fuelRef) :
    s.updRecord i f = s.setRecord i (some { f r with changed := true }) := by
  rw [State.updRecord_of_some hr, TrailerRecord.marking_of_ne]
  intro same
  have kept : (f r).tracked.fuelRef = r.tracked.fuelRef := by rw [same]
  exact h kept

/-- An event raised after a write that keeps the tag and the bay has them as its subject. -/
theorem State.raiseFor_updRecord (d : Detail) (h : ((f r).tag, (f r).bay) = (r.tag, r.bay)) :
    (s.updRecord i f).raiseFor i d = (s.setRecord i (some (r.marking (f r)))).raise ⟨.trailer r.tag r.bay i, d⟩ := by
  obtain ⟨htag, hbay⟩ := Prod.mk.inj h
  rw [State.updRecord_of_some hr, State.raiseFor_of_some (State.record?_setRecord_self _ _ _), TrailerRecord.marking_tag,
    TrailerRecord.marking_bay, htag, hbay]

end

/-! ## The evaluation -/

/-- A record with its runway and fuel-low evaluated from a level, in its zone (R70, R71). -/
def TrailerRecord.evaluated (r : TrailerRecord) (z : Zone) (level : Nat) : TrailerRecord :=
  { r with
    runway := runwayOf level r.burnRate
    fuelLow := fuelLowAfter z r.fuelLow level r.burnRate (runwayOf level r.burnRate) }

/-- The evaluation of a placed record writes its evaluated form, and raises FUEL_LOW where fuel-low turns on. -/
theorem State.evaluateFuel_of_some {s : State} {i : RecIdx} {r : TrailerRecord} (hr : s.record? i = some r) (level : Nat) :
    s.evaluateFuel i level =
      if (r.evaluated (s.zoneOf r) level).fuelLow = true ∧ ¬ r.fuelLow = true then
        (s.setRecord i (some (r.marking (r.evaluated (s.zoneOf r) level)))).raise
          ⟨.trailer r.tag r.bay i, .fuelLow level (shownRunway (runwayOf level r.burnRate))⟩
      else s.setRecord i (some (r.marking (r.evaluated (s.zoneOf r) level))) := by
  simp only [State.evaluateFuel, hr]
  rw [State.raiseFor_updRecord hr, State.updRecord_of_some hr]
  · rfl
  · rfl

/-! ## The cases of a reading -/

section
variable {s : State} {i : RecIdx} {r : TrailerRecord} {f p : Nat} (hr : s.record? i = some r) (stamp : YardTime)
include hr

theorem State.fuelCase_first (href : r.fuelRef = none) :
    s.fuelCase i f stamp = s.setRecord i (some { r with fuelRef := some f, fuelAge := 0, changed := true }) := by
  simp only [State.fuelCase, hr, href]
  rw [State.updRecord_of_fuelRef_ne hr]
  simp [href]

/-- A drop averages its rate into the burn rate and moves the reference (R68). -/
theorem State.fuelCase_drop (href : r.fuelRef = some p) (hdrop : f < p) :
    s.fuelCase i f stamp = s.setRecord i (some { r with
      burnRate := averagedRate r.burnRate (rateSample (p - f) r.fuelAge)
      fuelRef := some f, fuelAge := 0, changed := true }) := by
  simp only [State.fuelCase, hr, href, if_pos hdrop]
  rw [State.updRecord_of_fuelRef_ne hr]
  simp [href, hdrop.ne]

theorem State.fuelCase_small_rise (href : r.fuelRef = some p) (hrise : p < f) (hsmall : f < p + 5) :
    s.fuelCase i f stamp = s.setRecord i (some { r with fuelRef := some f, fuelAge := 0, changed := true }) := by
  simp only [State.fuelCase, hr, href, if_neg hrise.asymm, if_neg hsmall.not_ge, if_pos hrise]
  rw [State.updRecord_of_fuelRef_ne hr]
  simp [href, hrise.ne']

/-- A reading equal to the reference changes nothing (log 22). -/
theorem State.fuelCase_equal (href : r.fuelRef = some f) : s.fuelCase i f stamp = s := by
  have rise : ¬ f ≥ f + 5 := by omega
  simp only [State.fuelCase, hr, href, lt_irrefl, rise, if_false]

/-- A refuel is dated and its event raised before the reference moves (R69). -/
theorem State.fuelCase_refuel (href : r.fuelRef = some p) (hrefuel : p + 5 ≤ f) :
    s.fuelCase i f stamp =
      ((s.setRecord i (some (r.marking { r with lastRefuel := some ⟨stamp, some (f - p)⟩ }))).raise
        ⟨.trailer r.tag r.bay i, .refuelSeen (some (f - p))⟩).setRecord i (some { r with
          lastRefuel := some ⟨stamp, some (f - p)⟩, fuelRef := some f, fuelAge := 0, changed := true }) := by
  have rise : ¬ f < p := by omega
  have moved : some f ≠ r.fuelRef := by rw [href, ne_eq, Option.some.injEq]; omega
  obtain ⟨c, dated⟩ := r.marking_eq { r with lastRefuel := some ⟨stamp, some (f - p)⟩ }
  conv_lhs => simp only [State.fuelCase, hr, href, rise, if_false, ge_iff_le, hrefuel, if_true]
  rw [State.raiseFor_updRecord hr, dated,
    State.updRecord_of_fuelRef_ne ((State.record?_raise _ _ _).trans (State.record?_setRecord_self _ _ _))]
  · exact moved
  · rfl

end

/-- Settles O25, case by case of Table 4-5. -/
theorem fuelReadingTakesItsCase : Obligations.FuelReadingTakesItsCase := by
  refine ⟨fun i source x s none => ?_, fun i x f r s hr hf => ?_, fun i level runway low r s t hr hrunway hlow ht => ?_⟩
  · unfold State.fuelUpdate
    split
    · next hfuel => simp [hfuel] at none
    · rfl
  · have taken : s.fuelUpdate i .diesel x = (s.fuelCase i f x.readAt).evaluateFuel i f := by simp only [State.fuelUpdate, hf]
    rw [taken]
    refine ⟨fun href => ?_, fun p href hdrop => ?_, fun p href hrefuel => ?_, fun p href hrise hsmall => ?_, fun href => ?_⟩
    · rw [State.fuelCase_first hr _ href]
    · rw [State.fuelCase_drop hr _ href hdrop]
      rfl
    · rw [State.fuelCase_refuel hr _ href hrefuel]
    · rw [State.fuelCase_small_rise hr _ href hrise hsmall]
    · rw [State.fuelCase_equal hr _ href]
  · have turnsOn : (low = true ∧ r.fuelLow = false) =
        ((r.evaluated (s.zoneOf r) level).fuelLow = true ∧ ¬ r.fuelLow = true) := by
      rw [Bool.not_eq_true, hlow, hrunway]
      rfl
    rw [State.evaluateFuel_of_some hr, turnsOn]
    subst hrunway hlow ht
    exact ⟨fun on => if_pos on, fun stays => if_neg stays⟩

end Sys2Proof.Machine
end

section
/-! # FUEL_POST -/

namespace Sys2Proof.Machine

open Sys2Proof

/-- `t` is `s` with one record written as `x`, but for its changed flag, and besides it only what events change. -/
def State.writtenAs (i : RecIdx) (x : TrailerRecord) (s t : State) : Prop :=
  (∃ c, t.record? i = some { x with changed := c }) ∧ (∀ j, j ≠ i → t.record? j = s.record? j) ∧ t.downlink = s.downlink

namespace State.writtenAs

variable {i : RecIdx} {x : TrailerRecord} {s t : State}

theorem refl (h : s.record? i = some x) : s.writtenAs i x s := ⟨⟨x.changed, h⟩, fun _ _ => rfl, rfl⟩

theorem raise (h : State.writtenAs i x s t) (e : Event) : State.writtenAs i x s (t.raise e) := by
  obtain ⟨⟨c, hx⟩, others, downlink⟩ := h
  exact ⟨⟨c, by rw [State.record?_raise, hx]⟩, fun j hj => by rw [State.record?_raise, others j hj],
    (State.downlink_raise e t).trans downlink⟩

theorem raiseFor (h : State.writtenAs i x s t) (d : Detail) : State.writtenAs i x s (t.raiseFor i d) := h.raise _

/-- A further write of the same record, whatever the changed flag it finds. -/
theorem updRecord (h : State.writtenAs i x s t) {f : TrailerRecord → TrailerRecord} {y : TrailerRecord}
    (hf : ∀ c, ∃ c', f { x with changed := c } = { y with changed := c' }) : State.writtenAs i y s (t.updRecord i f) := by
  obtain ⟨⟨c, hx⟩, others, downlink⟩ := h
  obtain ⟨c', written⟩ := hf c
  obtain ⟨c'', marked⟩ := TrailerRecord.marking_eq { x with changed := c } { y with changed := c' }
  rw [State.updRecord_of_some hx, written, marked]
  refine ⟨⟨c'', State.record?_setRecord_self _ _ _⟩, fun j hj => ?_, downlink⟩
  rw [State.record?_setRecord_ne _ _ hj.symm, others j hj]

/-- The evaluation writes the runway, and some fuel-low. -/
theorem evaluateFuel (h : State.writtenAs i x s t) (level : Nat) :
    ∃ low, State.writtenAs i { x with runway := runwayOf level x.burnRate, fuelLow := low } s (t.evaluateFuel i level) := by
  have found := h
  obtain ⟨⟨c, hx⟩, -, -⟩ := found
  have written := fun low => h.updRecord (f := fun r => { r with runway := runwayOf level x.burnRate, fuelLow := low })
    (y := { x with runway := runwayOf level x.burnRate, fuelLow := low }) fun c => ⟨c, rfl⟩
  unfold State.evaluateFuel
  simp only [hx]
  split
  · exact ⟨_, (written _).raiseFor _⟩
  · exact ⟨_, written _⟩

end State.writtenAs

theorem State.now_updRecord (i : RecIdx) (f : TrailerRecord → TrailerRecord) (s : State) : (s.updRecord i f).now = s.now := by
  unfold State.updRecord
  split <;> rfl

/-- A record after a posting, with some fuel-low: the level is the reference at age 0, and a refuel is dated with no amount
(R72). -/
def TrailerRecord.fuelPosted (r : TrailerRecord) (level : Nat) (refuelled : Bool) (stamp : YardTime) (low : Bool) :
    TrailerRecord :=
  { r with
    fuelRef := some level, fuelAge := 0
    lastRefuel := if refuelled then some { time := stamp, amount := none } else r.lastRefuel
    runway := runwayOf level r.burnRate, fuelLow := low }

theorem State.postFuel_writtenAs {s : State} {i : RecIdx} {r : TrailerRecord} (hr : s.record? i = some r) (level : Nat)
    (refuelled : Bool) :
    ∃ low, State.writtenAs i (r.fuelPosted level refuelled s.now low) s (s.postFuel i level refuelled) := by
  have posted := (State.writtenAs.refl hr).updRecord (f := fun r => { r with fuelRef := some level, fuelAge := 0 })
    (y := { r with fuelRef := some level, fuelAge := 0 }) fun c => ⟨c, rfl⟩
  unfold State.postFuel
  cases refuelled with
  | false => exact posted.evaluateFuel level
  | true =>
    have dated := posted.updRecord (f := fun r => { r with lastRefuel := some { time := s.now, amount := none } })
      (y := { r with fuelRef := some level, fuelAge := 0, lastRefuel := some { time := s.now, amount := none } })
      fun c => ⟨c, rfl⟩
    simp only [if_true, State.now_updRecord]
    exact (dated.raiseFor _).evaluateFuel level

/-- A change of records, notices and the Check List that leaves the Downlink Queue. -/
theorem eq_of_outsideRecords {s t : State} (h : t.outsideRecords = s.outsideRecords) (downlink : t.downlink = s.downlink) :
    t = { s with records := t.records, desks := t.desks, checks := t.checks, nextSerial := t.nextSerial } := by
  have restored := congrArg (fun v : State =>
    { v with records := t.records, desks := t.desks, checks := t.checks, nextSerial := t.nextSerial
             downlink := t.downlink }) h
  rw [← downlink]
  exact restored

/-- OFC posts a fuel level with no right, and PAT with the CHECK right. -/
theorem Request.fuelPost_right {m : Master} {n : Subject} {level : Nat} {refuelled : Bool} {rights : Rights}
    (hm : m = .ofc ∨ (m = .pat ∧ rights.check = true)) :
    ∀ right, (Request.fuelPost n level refuelled).rightNeeded m = some right → rights.has right = true := by
  rcases hm with rfl | ⟨rfl, check⟩
  · exact fun _ hright => nomatch hright
  · rintro _ ⟨⟩
    exact check

theorem Master.fuelPost_allowed {m : Master} {p : Prop} (hm : m = .ofc ∨ (m = .pat ∧ p)) : Kind.fuelPost.allowedOn m.port := by
  rcases hm with rfl | ⟨rfl, -⟩ <;> decide

theorem State.lockRefuses_fuelPost (s : State) (m : Master) (n : Subject) (level : Nat) (refuelled : Bool) (res : Resolved) :
    s.lockRefuses m (.fuelPost n level refuelled) res = false := by
  cases m <;> rfl

/-- FUEL_POST with its right is the posting, and answers DONE (R72). -/
theorem exec_fuelPost {m : Master} {n : Subject} {level : Nat} {refuelled : Bool} {s s' : State} {res : Resolved}
    (h : s.ready m.port) (hm : m = .ofc ∨ (m = .pat ∧ res.rights.check = true)) (hn : n.inRange) (hlevel : level ≤ 100)
    (hres : (s.received m.port).resolvesTo m n s' res) :
    exec (.fuelPost m.port (Request.fuelPost n level refuelled).body) s =
      .next ((s'.postFuel res.record level refuelled).answered m.port .fuelPost (.done .nothing)) := by
  have range : (Request.fuelPost n level refuelled).inRange = true := by simp [Request.inRange, hn, hlevel]
  refine exec_resolved (req := .fuelPost n level refuelled) h range (Master.fuelPost_allowed hm) rfl hres ?_
  rw [State.judge_passes (Request.fuelPost_right hm) (s'.lockRefuses_fuelPost m n level refuelled res)]
  rfl

/-- Settles O26: the posting as a write of its record, with the frame of what postings change. -/
theorem fuelPostSetsTheReference : Obligations.FuelPostSetsTheReference := by
  intro m n level refuelled s s' res r h hm hn hlevel hres hr
  obtain ⟨c, hs'⟩ := State.resolvesTo_frame hres
  obtain ⟨low, ⟨changed, written⟩, others, downlink⟩ := State.postFuel_writtenAs hr level refuelled
  have now : s'.now = s.clock.time := by rw [hs']; rfl
  have same : ∀ j, s'.record? j = s.record? j := fun j => by rw [hs']; rfl
  refine ⟨_, _, exec_fuelPost h hm hn hlevel hres, written, rfl, rfl, rfl, rfl, ?_, rfl, rfl, rfl,
    fun j hj => (others j hj).trans (same j), eq_of_outsideRecords (s'.postFuel_frame res.record level refuelled) downlink⟩
  rw [← now]
  rfl

end Sys2Proof.Machine
end

section
/-! # The end of a defrost -/

namespace Sys2Proof.Machine

open Sys2Proof

/-! ## Steps that leave one record at a value -/

/-- `t` is `s` with one record at `x` and every other record as it was. -/
def State.leavesAt (i : RecIdx) (x : TrailerRecord) (s t : State) : Prop :=
  t.record? i = some x ∧ ∀ j, j ≠ i → t.record? j = s.record? j

/-- A record whose changed flag is set keeps it, whatever is written. -/
theorem TrailerRecord.marking_of_changed {old new : TrailerRecord} (h : new.changed = true) : old.marking new = new := by
  unfold TrailerRecord.marking
  split
  · rfl
  · rw [← h]

theorem State.updRecord_of_changed {s : State} {i : RecIdx} {x : TrailerRecord} {f : TrailerRecord → TrailerRecord}
    (hx : s.record? i = some x) (hf : (f x).changed = true) : s.updRecord i f = s.setRecord i (some (f x)) := by
  rw [State.updRecord_of_some hx, TrailerRecord.marking_of_changed hf]

namespace State.leavesAt

variable {i : RecIdx} {x : TrailerRecord} {s t : State}

theorem setRecord (h : State.leavesAt i x s t) (y : TrailerRecord) : State.leavesAt i y s (t.setRecord i (some y)) := by
  obtain ⟨-, others⟩ := h
  refine ⟨State.record?_setRecord_self _ _ _, fun j hj => ?_⟩
  rw [State.record?_setRecord_ne _ _ hj.symm, others j hj]

theorem updRecord (h : State.leavesAt i x s t) {f : TrailerRecord → TrailerRecord} (hf : (f x).changed = true) :
    State.leavesAt i (f x) s (t.updRecord i f) := by
  rw [State.updRecord_of_changed h.1 hf]
  exact h.setRecord (f x)

theorem of_records {u : State} (h : State.leavesAt i x s t) (records : u.records = t.records) : State.leavesAt i x s u := by
  have same : ∀ j, u.record? j = t.record? j := fun j => by rw [State.record?, State.record?, records]
  exact ⟨(same i).trans h.1, fun j hj => (same j).trans (h.2 j hj)⟩

theorem raise (h : State.leavesAt i x s t) (e : Event) : State.leavesAt i x s (t.raise e) :=
  ⟨(State.record?_raise e t i).trans h.1, fun j hj => (State.record?_raise e t j).trans (h.2 j hj)⟩

/-- A hand-off writes no field but the slot. -/
theorem handOff (h : State.leavesAt i x s t) (hx : x.changed = true) (c : Command) :
    ∃ slot, State.leavesAt i { x with slot := slot } s (t.handOff i c) := by
  have written := fun slot => h.updRecord (f := fun r => { r with slot := slot }) hx
  unfold State.handOff
  simp only [h.1]
  split
  · exact ⟨x.slot, h⟩
  · split
    · exact ⟨_, written _⟩
    · exact ⟨_, written _⟩
    · split
      · exact ⟨x.slot, h⟩
      · exact ⟨_, written _⟩
    · split
      · exact ⟨_, written _⟩
      · exact ⟨_, written _⟩

end State.leavesAt

theorem resumeRun_none (newest : Activity) : resumeRun newest none = none := by cases newest <;> rfl

/-- A kind that a record does not hold is not in its chain. -/
theorem TrailerRecord.dropFrom_of_not_holds {x : TrailerRecord} {k : Activity} (h : ¬ x.holds k = true) :
    dropFrom x.chain k = x.chain := by
  refine List.filter_eq_self.mpr fun e he => ?_
  simp only [TrailerRecord.holds, List.any_eq_true, decide_eq_true_eq, not_exists, not_and] at h
  exact decide_eq_true (h e he)

/-- The removal of an activity from a record with no run data writes its chain and its slot alone. -/
theorem State.leavesAt.removeActivity {i : RecIdx} {x : TrailerRecord} {s t : State} (h : State.leavesAt i x s t)
    (hx : x.changed = true) (hrun : x.run = none) (k : Activity) :
    ∃ slot, State.leavesAt i { x with chain := dropFrom x.chain k, slot := slot } s (t.removeActivity i k) := by
  unfold State.removeActivity
  simp only [h.1]
  split
  · split
    · have dropped := h.updRecord (f := fun r => { r with
        chain := dropFrom x.chain k, run := resumeRun (effectiveOf (dropFrom x.chain k)) r.run }) hx
      simp only [hrun, resumeRun_none] at dropped
      obtain ⟨slot, handed⟩ := dropped.handOff hx (effectiveOf (dropFrom x.chain k)).wanted
      exact ⟨slot, by simpa only [hrun] using handed⟩
    · exact ⟨x.slot, h.updRecord (f := fun r => { r with chain := dropFrom x.chain k }) hx⟩
  · next absent =>
    refine ⟨x.slot, ?_⟩
    rw [TrailerRecord.dropFrom_of_not_holds absent]
    exact h

/-! ## The queue action -/

/-- What the Defrost Scheduler keeps of its grants. -/
def State.granting (s : State) : List GrantItem × Vector Feeder 4 × Nat := (s.grants, s.feeders, s.nextGrant)

theorem State.granting_raise (e : Event) (s : State) : (s.raise e).granting = s.granting := by
  have kept : (s.raise e).outsideNotices.granting = s.outsideNotices.granting := congrArg State.granting (s.raise_frame e)
  exact kept

theorem State.joinQueue_keeps (i : RecIdx) (excess : Nat) (manual : Bool) (n : Nat) (s : State) :
    ((s.joinQueue i excess manual n).records, (s.joinQueue i excess manual n).granting) = (s.records, s.granting) := by
  unfold State.joinQueue State.joinRoom
  split <;> rfl

theorem State.joinQueue_leavesAt {i : RecIdx} {x : TrailerRecord} {s t : State} (h : State.leavesAt i x s t) (excess : Nat)
    (manual : Bool) (n : Nat) : State.leavesAt i x s (t.joinQueue i excess manual n) :=
  h.of_records (congrArg Prod.fst (t.joinQueue_keeps i excess manual n))

/-- The queue action of an end of a placed record: TIMED_OUT evaluates demand, and REVOKED puts the trailer back, pinned, where
its level still meets its threshold (R108, R109). -/
theorem State.queueAction_of_some {s : State} {i : RecIdx} {x : TrailerRecord} (hx : s.record? i = some x) (k : EndKind) :
    s.queueAction i k = (match k with
      | .timedOut => s.evaluateDemand i
      | .revoked _ _ => if x.threshold ≤ x.level then s.joinQueue i (x.level - x.threshold) false 4 else s
      | _ => s) := by
  cases k with
  | revoked cause wait =>
    show s.reenqueue i = _
    simp only [State.reenqueue, hx]
    rfl
  | timedOut | terminated | abandoned | cancelled | released => rfl

/-- The queue action writes no record and keeps the grants. -/
theorem State.leavesAt.queueAction {i : RecIdx} {x : TrailerRecord} {s t : State} (h : State.leavesAt i x s t) (k : EndKind) :
    State.leavesAt i x s (t.queueAction i k) ∧ (t.queueAction i k).granting = t.granting := by
  have joined := fun excess n => And.intro (State.joinQueue_leavesAt h excess false n)
    (congrArg Prod.snd (t.joinQueue_keeps i excess false n))
  rw [State.queueAction_of_some h.1]
  cases k with
  | timedOut =>
    show State.leavesAt i x s (t.evaluateDemand i) ∧ (t.evaluateDemand i).granting = t.granting
    simp only [State.evaluateDemand, h.1]
    split
    · obtain ⟨left, kept⟩ := joined (x.level - x.threshold) 0
      exact ⟨left.raise _, (State.granting_raise _ _).trans kept⟩
    · exact ⟨h, rfl⟩
  | revoked cause wait =>
    simp only
    split
    · exact joined _ _
    · exact ⟨h, rfl⟩
  | terminated | abandoned | cancelled | released => exact ⟨h, rfl⟩

/-! ## The end -/

theorem State.setRecord_setRecord (i : RecIdx) (x y : Option TrailerRecord) (s : State) :
    (s.setRecord i x).setRecord i y = s.setRecord i y := by
  simp only [State.setRecord, Vector.set_set]

/-- A record once its run data is gone and its accumulator is as Table 4-1 gives. -/
def TrailerRecord.stopped (r : TrailerRecord) (k : EndKind) : TrailerRecord :=
  { r with run := none, frost := frostAtEnd k r.frost, changed := true }

/-- A record with the not-before and the cancel latch of Table 6-3. -/
def TrailerRecord.latched (y : TrailerRecord) (k : EndKind) : TrailerRecord :=
  { y with notBefore := k.notBefore y.notBefore, cancelLatch := k.latch y.cancelLatch }

/-- The part with a load given back to its feeder (R91). -/
def State.givenBack (s : State) (d : RunData) : State :=
  match d.feeder with
  | some f => s.setFeeder f { s.feeders[f] with granted := s.feeders[f].granted - d.load }
  | none => s

/-- The part after the first steps of an end, before Chain Control acts (R106). -/
def State.ungranted (s : State) (i : RecIdx) (k : EndKind) (d : RunData) (r : TrailerRecord) : State :=
  { (s.givenBack d).setRecord i (some (r.stopped k)) with grants := s.grants.filter fun g => g.record ≠ i }

/-- The part with another grant list and other feeders. -/
def State.withGranting (s : State) (grants : List GrantItem) (feeders : Vector Feeder 4) : State :=
  { s with grants := grants, feeders := feeders }

theorem State.setRecord_withGranting (i : RecIdx) (x : Option TrailerRecord) (grants : List GrantItem)
    (feeders : Vector Feeder 4) (s : State) :
    (s.setRecord i x).withGranting grants feeders = (s.withGranting grants feeders).setRecord i x := rfl

/-- The later steps of an end: Chain Control, the waits, the event and the queue action (R106). -/
def State.concluded (i : RecIdx) (k : EndKind) (d : RunData) (s : State) : State :=
  State.queueAction i k (((s.removeActivity i .defrost).updRecord i fun r => r.latched k).raiseFor i (k.detail d))

/-- The removal of run data sets the changed flag. -/
theorem State.updRecord_run_none {s : State} {i : RecIdx} {d : RunData} {r : TrailerRecord} (hr : s.record? i = some r)
    (hrun : r.run = some d) :
    s.updRecord i (fun r => { r with run := none }) = s.setRecord i (some { r with run := none, changed := true }) := by
  rw [State.updRecord_of_some hr, TrailerRecord.marking_of_ne]
  intro same
  have kept := congrArg TrailerRecord.run same
  exact nomatch kept.trans hrun

/-- The record's two writes around the undoing of the grant are one (R64, R106). -/
theorem State.stopped_of_writes (i : RecIdx) (r : TrailerRecord) (k : EndKind) (grants : List GrantItem)
    (feeders : Vector Feeder 4) (s : State) :
    ((s.setRecord i (some { r with run := none, changed := true })).withGranting grants feeders).updRecord i
        (fun r => { r with frost := frostAtEnd k r.frost }) =
      (s.withGranting grants feeders).setRecord i (some (r.stopped k)) := by
  rw [State.setRecord_withGranting, State.updRecord_of_changed (State.record?_setRecord_self _ _ _) rfl,
    State.setRecord_setRecord]
  rfl

/-- An end undoes the grant, and then takes its later steps. -/
theorem State.endDefrost_eq {s : State} {i : RecIdx} {d : RunData} {r : TrailerRecord} (hr : s.record? i = some r)
    (hrun : r.run = some d) (k : EndKind) : s.endDefrost i k = (s.ungranted i k d r).concluded i k d := by
  have stopped := fun feeders => congrArg (State.concluded i k d)
    (s.stopped_of_writes i r k (s.grants.filter fun g => g.record ≠ i) feeders)
  unfold State.endDefrost State.ungranted State.givenBack
  simp only [hr, Option.bind_some, hrun, State.updRecord_run_none hr hrun]
  cases d.feeder with
  | none => exact stopped s.feeders
  | some f => exact stopped (s.feeders.set f { s.feeders[f] with granted := s.feeders[f].granted - d.load })

/-! ## What an end leaves -/

theorem State.ungranted_leavesAt {s : State} {i : RecIdx} {r : TrailerRecord} (hr : s.record? i = some r) (k : EndKind)
    (d : RunData) : State.leavesAt i (r.stopped k) s (s.ungranted i k d r) := by
  have records : (s.givenBack d).records = s.records := by
    unfold State.givenBack
    split <;> rfl
  have found : State.leavesAt i r s s := ⟨hr, fun _ _ => rfl⟩
  exact ((found.of_records records).setRecord (r.stopped k)).of_records rfl

/-- The record after Chain Control has removed DEFROST, with the slot that its hand-off left. -/
def TrailerRecord.undefrosted (r : TrailerRecord) (k : EndKind) (slot : Slot) : TrailerRecord :=
  { r.stopped k with chain := dropFrom r.chain .defrost, slot := slot }

theorem State.ungranted_removeActivity {s : State} {i : RecIdx} {r : TrailerRecord} (hr : s.record? i = some r) (k : EndKind)
    (d : RunData) :
    ∃ slot, State.leavesAt i (r.undefrosted k slot) s ((s.ungranted i k d r).removeActivity i .defrost) :=
  (State.ungranted_leavesAt hr k d).removeActivity rfl rfl .defrost

theorem State.concluded_eq {t : State} {i : RecIdx} {y : TrailerRecord}
    (hy : (t.removeActivity i .defrost).record? i = some y) (hchanged : y.changed = true) (k : EndKind) (d : RunData) :
    t.concluded i k d = State.queueAction i k
      (((t.removeActivity i .defrost).setRecord i (some (y.latched k))).raise ⟨.trailer y.tag y.bay i, k.detail d⟩) := by
  have marked : y.marking (y.latched k) = y.latched k := TrailerRecord.marking_of_changed hchanged
  rw [State.concluded, State.raiseFor_updRecord hy, marked]
  rfl

theorem State.granting_removeActivity (i : RecIdx) (k : Activity) (s : State) :
    (s.removeActivity i k).granting = s.granting := by
  have kept : (s.removeActivity i k).outsideRecords.granting = s.outsideRecords.granting :=
    congrArg State.granting (s.removeActivity_frame i k)
  exact kept

/-- An end leaves its record undefrosted and latched, every other record as it was, and the grants as the undoing of the grant
leaves them. -/
theorem State.endDefrost_leavesAt {s : State} {i : RecIdx} {d : RunData} {r : TrailerRecord} (hr : s.record? i = some r)
    (hrun : r.run = some d) (k : EndKind) :
    ∃ slot, State.leavesAt i ((r.undefrosted k slot).latched k) s (s.endDefrost i k) ∧
      (s.endDefrost i k).granting = (s.ungranted i k d r).granting := by
  obtain ⟨slot, removed⟩ := State.ungranted_removeActivity hr k d
  obtain ⟨left, kept⟩ := ((removed.setRecord ((r.undefrosted k slot).latched k)).raise
    ⟨.trailer r.tag r.bay i, k.detail d⟩).queueAction k
  have found := removed.1
  rw [State.endDefrost_eq hr hrun, State.concluded_eq found rfl]
  exact ⟨slot, left, kept.trans ((State.granting_raise _ _).trans (State.granting_removeActivity _ _ _))⟩

/-- The load goes back to the feeder of the grant, and to no other (R91). -/
theorem State.givenBack_feeder (s : State) (d : RunData) (f : FeederNo) :
    (s.givenBack d).feeders[f] =
      if d.feeder = some f then { s.feeders[f] with granted := s.feeders[f].granted - d.load } else s.feeders[f] := by
  unfold State.givenBack
  cases d.feeder with
  | none => rfl
  | some g =>
    by_cases same : g = f
    · subst same
      simp [State.setFeeder]
    · have apart : g.val ≠ f.val := fun h => same (Fin.ext h)
      simp [State.setFeeder, same, Vector.getElem_set_ne _ _ apart]

/-- No entry of a chain less DEFROST is DEFROST. -/
theorem holds_of_chain_dropFrom {x : TrailerRecord} {chain : List ChainEntry} {k : Activity} (h : x.chain = dropFrom chain k) :
    x.holds k = false := by
  rw [TrailerRecord.holds, h, List.any_eq_false]
  intro e he
  have other := (List.mem_filter.mp he).2
  simpa using other

/-- What an end of a defrost writes and leaves. -/
theorem State.endDefrost_undoes {i : RecIdx} {k : EndKind} {d : RunData} {r : TrailerRecord} {s : State}
    (hr : s.record? i = some r) (hrun : r.run = some d) :
    ∃ slot, State.leavesAt i ((r.undefrosted k slot).latched k) s (s.endDefrost i k) ∧
      (s.endDefrost i k).grants = s.grants.filter (fun g => g.record ≠ i) ∧
      (s.endDefrost i k).feeders = (s.givenBack d).feeders ∧ (s.endDefrost i k).nextGrant = s.nextGrant := by
  obtain ⟨slot, left, kept⟩ := State.endDefrost_leavesAt hr hrun k
  obtain ⟨grants, rest⟩ := Prod.mk.inj kept
  obtain ⟨feeders, next⟩ := Prod.mk.inj rest
  refine ⟨slot, left, grants, feeders, next.trans ?_⟩
  show (s.givenBack d).nextGrant = s.nextGrant
  unfold State.givenBack
  split <;> rfl

/-- Settles O35: the end as the undoing of its grant followed by its later steps, and what both leave. -/
theorem defrostEnds : Obligations.DefrostEnds := by
  refine ⟨fun i k d r s hr hrun => ?_, fun i k d r y s u v w e hr hrun hu hv hy he hw => ?_⟩
  · obtain ⟨slot, ⟨record, others⟩, grants, feeders, next⟩ := State.endDefrost_undoes (k := k) hr hrun
    have frame := eq_of_outsideScheduler (s.endDefrost_frame i k)
    rw [next] at frame
    refine ⟨_, _, rfl, record, rfl, holds_of_chain_dropFrom rfl, rfl, rfl, ?_, ?_, ?_, grants, fun f => ?_, others, frame⟩
    · cases k <;> rfl
    · cases k with
      | revoked cause wait => cases wait <;> rfl
      | terminated | timedOut | abandoned | cancelled | released => rfl
    · cases k <;> rfl
    · rw [feeders, State.givenBack_feeder]
  · have undone : v = (s.ungranted i k d r).removeActivity i .defrost := by
      rw [hv, hu]
      cases k <;> rfl
    have latched : w = (v.setRecord i (some (y.latched k))).raise ⟨.trailer r.tag r.bay i, k.detail d⟩ := by
      rw [hw, he]
      cases k with
      | revoked cause wait => cases wait <;> rfl
      | terminated | timedOut | abandoned | cancelled | released => rfl
    obtain ⟨slot, found, -⟩ := State.ungranted_removeActivity hr k d
    rw [undone] at hy latched
    cases found.symm.trans hy
    have record : w.record? i = some ((r.undefrosted k slot).latched k) := by
      rw [latched, State.record?_raise, State.record?_setRecord_self]
    have ended : s.endDefrost i k = w.queueAction i k := by
      rw [State.endDefrost_eq hr hrun, State.concluded_eq found rfl, latched]
      rfl
    rw [ended, State.queueAction_of_some record]
    cases k <;> rfl

end Sys2Proof.Machine
end

section
/-! # Pushes onto a chain and removals from it -/

namespace Sys2Proof.Machine

open Sys2Proof

/-! ## Chains that change -/

theorem pushOn_ne_self (chain : List ChainEntry) (k : Activity) (setBy : Option Master) : pushOn chain k setBy ≠ chain := by
  simp [pushOn]

theorem TrailerRecord.dropFrom_ne_self {r : TrailerRecord} {k : Activity} (h : r.holds k = true) :
    dropFrom r.chain k ≠ r.chain := by
  intro same
  have absent : r.holds k = false := holds_of_chain_dropFrom same.symm
  exact absurd h (by simp [absent])

/-- A removal that does not leave DEFROST on top keeps the run data. -/
theorem resumeRun_of_ne {newest : Activity} (h : newest ≠ .defrost) (run : Option RunData) : resumeRun newest run = run := by
  cases newest with
  | defrost => exact absurd rfl h
  | cool | doorHold | serviceHold => rfl

section
variable {s : State} {i : RecIdx} {r : TrailerRecord} (hr : s.record? i = some r) {k : Activity}
include hr

/-- A write that changes the chain sets the changed flag (R21). -/
theorem State.updRecord_of_chain_ne {f : TrailerRecord → TrailerRecord} (h : (f r).chain ≠ r.chain) :
    s.updRecord i f = s.setRecord i (some { f r with changed := true }) := by
  rw [State.updRecord_of_some hr, TrailerRecord.marking_of_ne]
  intro same
  have kept : (f r).tracked.chain = r.tracked.chain := by rw [same]
  exact h kept

/-! ## Pushes -/

/-- A kind already present leaves the chain as it is and hands nothing (R78). -/
theorem State.pushActivity_of_holds (hk : r.holds k = true) (setBy : Option Master) : s.pushActivity i k setBy = s := by
  simp only [State.pushActivity, hr, hk, if_true]

/-- A kind that is absent goes on top, and its wanted command is handed (R77). -/
theorem State.pushActivity_of_absent (hk : r.holds k = false) (setBy : Option Master) :
    s.pushActivity i k setBy =
      (s.setRecord i (some { r with chain := pushOn r.chain k setBy, changed := true })).handOff i k.wanted := by
  simp only [State.pushActivity, hr, hk, Bool.false_eq_true, if_false]
  rw [State.updRecord_of_chain_ne hr (pushOn_ne_self _ _ _)]

/-! ## Removals -/

/-- A kind that is absent leaves the chain as it is and hands nothing. -/
theorem State.removeActivity_of_absent (hk : r.holds k = false) : s.removeActivity i k = s := by
  simp only [State.removeActivity, hr, hk, Bool.false_eq_true, if_false]

/-- A removal from beneath the newest entry hands nothing (R79). -/
theorem State.removeActivity_of_beneath (hk : r.holds k = true) (beneath : r.effective ≠ k) :
    s.removeActivity i k = s.setRecord i (some { r with chain := dropFrom r.chain k, changed := true }) := by
  simp only [State.removeActivity, hr, hk, if_true, beneath, if_false]
  rw [State.updRecord_of_chain_ne hr (TrailerRecord.dropFrom_ne_self hk)]

/-- A removal of the newest entry hands the wanted command of the entry beneath; a defrost there resumes (R77, R85). -/
theorem State.removeActivity_of_newest (hk : r.holds k = true) (newest : r.effective = k) :
    s.removeActivity i k =
      (s.setRecord i (some { r with
        chain := dropFrom r.chain k, run := resumeRun (effectiveOf (dropFrom r.chain k)) r.run, changed := true })).handOff
          i (effectiveOf (dropFrom r.chain k)).wanted := by
  simp only [State.removeActivity, hr, hk, if_true, newest]
  rw [State.updRecord_of_chain_ne hr (TrailerRecord.dropFrom_ne_self hk)]

end

/-- Settles O28: the two cases of a push and the three of a removal, the last by what stands beneath. -/
theorem chainChangesHandOver : Obligations.ChainChangesHandOver := by
  refine fun i k setBy r s hr => ⟨fun hk => State.pushActivity_of_holds hr hk setBy,
    fun hk => State.pushActivity_of_absent hr hk setBy, fun hk => State.removeActivity_of_absent hr hk,
    fun hk beneath => State.removeActivity_of_beneath hr hk beneath, fun hk newest other => ?_,
    fun d hk newest resumed hrun => ?_⟩
  · refine (State.removeActivity_of_newest hr hk newest).trans ?_
    have kept : resumeRun (effectiveOf (dropFrom r.chain k)) r.run = r.run := resumeRun_of_ne other r.run
    rw [kept]
    rfl
  · refine (State.removeActivity_of_newest hr hk newest).trans ?_
    have top : effectiveOf (dropFrom r.chain k) = .defrost := resumed
    rw [top, hrun]
    rfl

end Sys2Proof.Machine
end

section
/-! # The shape of a chain and its run data -/

namespace Sys2Proof.Machine

open Sys2Proof

/-! ## Kinds -/

/-- DOOR_HOLD and SERVICE_HOLD, the kinds that stand above a defrost (R75). -/
def Activity.isHold (k : Activity) : Prop := k ≠ .cool ∧ k ≠ .defrost

/-- Holds, none of them twice. -/
def holdsOnly (kinds : List Activity) : Prop := kinds.Nodup ∧ ∀ k ∈ kinds, k.isHold

theorem holdsOnly_nil : holdsOnly [] := ⟨List.nodup_nil, nofun⟩

theorem holdsOnly.append {above : List Activity} (h : holdsOnly above) {k : Activity} (hk : k.isHold) (absent : k ∉ above) :
    holdsOnly (above ++ [k]) := by
  obtain ⟨nodup, holds⟩ := h
  refine ⟨List.Nodup.append nodup (List.nodup_singleton k) (List.disjoint_singleton.mpr absent), fun j hj => ?_⟩
  rcases List.mem_append.mp hj with hj | hj
  · exact holds j hj
  · rwa [List.mem_singleton.mp hj]

theorem holdsOnly.filter {above : List Activity} (h : holdsOnly above) (p : Activity → Bool) : holdsOnly (above.filter p) :=
  ⟨h.1.filter p, fun k hk => h.2 k (List.mem_of_mem_filter hk)⟩

theorem holdsOnly.noCool {above : List Activity} (h : holdsOnly above) : Activity.cool ∉ above := fun hk => (h.2 _ hk).1 rfl

theorem holdsOnly.noDefrost {above : List Activity} (h : holdsOnly above) : Activity.defrost ∉ above :=
  fun hk => (h.2 _ hk).2 rfl

theorem holdsOnly.filter_defrost {above : List Activity} (h : holdsOnly above) :
    above.filter (fun k => k ≠ .defrost) = above :=
  List.filter_eq_self.mpr fun k hk => decide_eq_true (h.2 k hk).2

theorem kinds_pushOn (chain : List ChainEntry) (k : Activity) (setBy : Option Master) :
    (pushOn chain k setBy).map ChainEntry.kind = chain.map ChainEntry.kind ++ [k] := by
  simp [pushOn]

theorem kinds_dropFrom (chain : List ChainEntry) (k : Activity) :
    (dropFrom chain k).map ChainEntry.kind = (chain.map ChainEntry.kind).filter fun j => j ≠ k := by
  rw [dropFrom, List.filter_map]
  rfl

theorem TrailerRecord.holds_iff {r : TrailerRecord} {k : Activity} :
    r.holds k = true ↔ k ∈ r.chain.map ChainEntry.kind := by
  simp [TrailerRecord.holds]

/-! ## Chains in the order of R75 -/

/-- A chain in the order of R75 is COOL, or COOL and DEFROST, under holds. -/
theorem chainOk_iff {chain : List ChainEntry} :
    chainOk chain ↔ ∃ above, holdsOnly above ∧
      (chain.map ChainEntry.kind = .cool :: above ∨ chain.map ChainEntry.kind = .cool :: .defrost :: above) := by
  rw [chainOk, ← List.head?_map]
  generalize chain.map ChainEntry.kind = kinds
  constructor
  · rintro ⟨first, nodup, second⟩
    obtain ⟨rest, rfl⟩ := List.head?_eq_some_iff.mp first
    obtain ⟨noCool, nodup⟩ := List.nodup_cons.mp nodup
    by_cases hd : Activity.defrost ∈ rest
    · obtain ⟨above, rfl⟩ := List.head?_eq_some_iff.mp
        ((List.head?_eq_getElem?).trans (second (List.mem_cons_of_mem _ hd)))
      obtain ⟨noDefrost, nodup⟩ := List.nodup_cons.mp nodup
      refine ⟨above, ⟨nodup, fun k hk => ⟨?_, ?_⟩⟩, .inr rfl⟩
      · rintro rfl
        exact noCool (List.mem_cons_of_mem _ hk)
      · rintro rfl
        exact noDefrost hk
    · refine ⟨rest, ⟨nodup, fun k hk => ⟨?_, ?_⟩⟩, .inl rfl⟩
      · rintro rfl
        exact noCool hk
      · rintro rfl
        exact hd hk
  · rintro ⟨above, only, rfl | rfl⟩
    · exact ⟨rfl, List.nodup_cons.mpr ⟨only.noCool, only.1⟩, fun h => absurd h (by simp [only.noDefrost])⟩
    · exact ⟨rfl, List.nodup_cons.mpr ⟨by simp [only.noCool], List.nodup_cons.mpr ⟨only.noDefrost, only.1⟩⟩, fun _ => rfl⟩

/-! ## A record's chain and run data -/

/-- What `State.chainsOk` says of each placed record (R75, R102). -/
def TrailerRecord.chainAndRunOk (r : TrailerRecord) : Prop := chainOk r.chain ∧ (r.run.isSome ↔ r.holds .defrost)

/-- A record's holds stand on COOL with no run data, or on a DEFROST with run data. -/
theorem TrailerRecord.chainAndRunOk_iff {r : TrailerRecord} :
    r.chainAndRunOk ↔ ∃ above, holdsOnly above ∧
      (r.chain.map ChainEntry.kind = .cool :: above ∧ r.run.isSome = false ∨
        r.chain.map ChainEntry.kind = .cool :: .defrost :: above ∧ r.run.isSome = true) := by
  rw [TrailerRecord.chainAndRunOk, chainOk_iff, TrailerRecord.holds_iff]
  constructor
  · rintro ⟨⟨above, only, kinds | kinds⟩, run⟩ <;> rw [kinds] at run <;> refine ⟨above, only, ?_⟩
    · exact .inl ⟨kinds, by simpa [only.noDefrost] using run⟩
    · exact .inr ⟨kinds, by simpa using run⟩
  · rintro ⟨above, only, ⟨kinds, run⟩ | ⟨kinds, run⟩⟩
    · exact ⟨⟨above, only, .inl kinds⟩, by simp [kinds, run, only.noDefrost]⟩
    · exact ⟨⟨above, only, .inr kinds⟩, by simp [kinds, run]⟩

namespace TrailerRecord.chainAndRunOk

variable {r x : TrailerRecord}

/-- A record at [COOL] with no run data. -/
theorem of_base (kinds : r.chain.map ChainEntry.kind = [.cool]) (run : r.run = none) : r.chainAndRunOk :=
  TrailerRecord.chainAndRunOk_iff.mpr ⟨[], holdsOnly_nil, .inl ⟨kinds, by rw [run]; rfl⟩⟩

/-- A hold goes on top of whatever stands. -/
theorem push_hold (ok : r.chainAndRunOk) {k : Activity} (hk : k.isHold) (absent : r.holds k = false) {setBy : Option Master}
    (hchain : x.chain = pushOn r.chain k setBy) (hrun : x.run.isSome = r.run.isSome) : x.chainAndRunOk := by
  obtain ⟨above, only, shape⟩ := TrailerRecord.chainAndRunOk_iff.mp ok
  have notIn : k ∉ r.chain.map ChainEntry.kind := fun h => by simp [TrailerRecord.holds_iff.mpr h] at absent
  refine TrailerRecord.chainAndRunOk_iff.mpr ⟨above ++ [k], only.append hk fun h => notIn ?_, ?_⟩
  · rcases shape with ⟨kinds, -⟩ | ⟨kinds, -⟩ <;> simp [kinds, h]
  · rw [hchain, kinds_pushOn, hrun]
    rcases shape with ⟨kinds, run⟩ | ⟨kinds, run⟩
    · exact .inl ⟨by rw [kinds]; rfl, run⟩
    · exact .inr ⟨by rw [kinds]; rfl, run⟩

/-- A hold leaves from wherever it stands, and what is beneath it stays. -/
theorem drop_hold (ok : r.chainAndRunOk) {k : Activity} (hk : k.isHold) (hchain : x.chain = dropFrom r.chain k)
    (hrun : x.run.isSome = r.run.isSome) : x.chainAndRunOk := by
  obtain ⟨above, only, shape⟩ := TrailerRecord.chainAndRunOk_iff.mp ok
  refine TrailerRecord.chainAndRunOk_iff.mpr ⟨_, only.filter fun j => j ≠ k, ?_⟩
  rw [hchain, kinds_dropFrom, hrun]
  rcases shape with ⟨kinds, run⟩ | ⟨kinds, run⟩
  · exact .inl ⟨by simp [kinds, hk.1.symm], run⟩
  · exact .inr ⟨by simp [kinds, hk.1.symm, hk.2.symm], run⟩

/-- A defrost starts at [COOL] only (R98, R102). -/
theorem push_defrost (base : r.atBase = true) {setBy : Option Master} (hchain : x.chain = pushOn r.chain .defrost setBy)
    (hrun : x.run.isSome = true) : x.chainAndRunOk := by
  have kinds : r.chain.map ChainEntry.kind = [.cool] := of_decide_eq_true base
  exact TrailerRecord.chainAndRunOk_iff.mpr ⟨[], holdsOnly_nil, .inr ⟨by rw [hchain, kinds_pushOn, kinds]; rfl, hrun⟩⟩

/-- A defrost leaves with its run data, and the holds above it come to stand on COOL. -/
theorem drop_defrost (ok : r.chainAndRunOk) (hchain : x.chain = dropFrom r.chain .defrost) (hrun : x.run = none) :
    x.chainAndRunOk := by
  obtain ⟨above, only, shape⟩ := TrailerRecord.chainAndRunOk_iff.mp ok
  refine TrailerRecord.chainAndRunOk_iff.mpr ⟨above, only, .inl ⟨?_, by rw [hrun]; rfl⟩⟩
  have stay := only.filter_defrost
  rw [hchain, kinds_dropFrom]
  rcases shape with ⟨kinds, -⟩ | ⟨kinds, -⟩ <;> simpa [kinds] using stay

end TrailerRecord.chainAndRunOk

end Sys2Proof.Machine
end

section
/-! # Who holds and who awaits a defrost: what no other work changes -/

namespace Sys2Proof.Machine

open Sys2Proof

/-- What a record holds of a defrost: its chain, and the number, feeder and load of its grant (R75, R102). -/
def TrailerRecord.defrosting (r : TrailerRecord) : List ChainEntry × Option (Nat × Option FeederNo × Nat) :=
  (r.chain, r.run.map fun d => (d.grant, d.feeder, d.load))

theorem TrailerRecord.marking_defrosting (old new : TrailerRecord) : (old.marking new).defrosting = new.defrosting := by
  obtain ⟨c, marked⟩ := old.marking_eq new
  rw [marked]
  rfl

/-- A tick counts the seconds of a defrost and leaves its grant (R104). -/
theorem TrailerRecord.tick_defrosting (r : TrailerRecord) : r.tick.defrosting = r.defrosting := by
  have same : ∀ d : RunData, ((d.tick r.defrostState).grant, (d.tick r.defrostState).feeder, (d.tick r.defrostState).load) =
      (d.grant, d.feeder, d.load) := by
    intro d
    cases r.defrostState <;> rfl
  unfold TrailerRecord.defrosting TrailerRecord.tick
  rw [Option.map_map]
  exact congrArg (fun g => (r.chain, Option.map g r.run)) (funext same)

/-- What Chain Control and the Defrost Scheduler keep of the defrosts: of each placed record, and in their tables. -/
structure Scheduling where
  defrosts : RecIdx → Option (List ChainEntry × Option (Nat × Option FeederNo × Nat))
  queue : List QueueEntry
  grants : List GrantItem
  feeders : Vector Feeder 4

/-- Everything that the chains' and the scheduler's invariants read (R75, R91, R93, R102, R103). -/
def State.scheduling (s : State) : Scheduling :=
  ⟨fun i => (s.record? i).map TrailerRecord.defrosting, s.queue, s.grants, s.feeders⟩

/-- A record of one part has its like in any part that agrees with it. -/
theorem State.record?_of_scheduling {s t : State} (h : t.scheduling = s.scheduling) {i : RecIdx} {r : TrailerRecord}
    (hr : t.record? i = some r) : ∃ x, s.record? i = some x ∧ x.defrosting = r.defrosting := by
  have same : (t.record? i).map TrailerRecord.defrosting = (s.record? i).map TrailerRecord.defrosting :=
    congrFun (Scheduling.mk.inj h).1 i
  rw [hr] at same
  exact Option.map_eq_some_iff.mp same.symm

/-- A change of every record that leaves what each holds of a defrost. -/
theorem scheduling_of_records {s t : State} {g : RecIdx → TrailerRecord → TrailerRecord}
    (records : ∀ i, t.record? i = (s.record? i).map (g i)) (same : ∀ i r, (g i r).defrosting = r.defrosting)
    (tables : (t.queue, t.grants, t.feeders) = (s.queue, s.grants, s.feeders)) : t.scheduling = s.scheduling := by
  obtain ⟨queue, rest⟩ := Prod.mk.inj tables
  obtain ⟨grants, feeders⟩ := Prod.mk.inj rest
  have defrosts : (fun i => (t.record? i).map TrailerRecord.defrosting) =
      fun i => (s.record? i).map TrailerRecord.defrosting := by
    funext i
    rw [records, Option.map_map]
    exact congrArg (Option.map · (s.record? i)) (funext (same i))
  rw [State.scheduling, State.scheduling, defrosts, queue, grants, feeders]

theorem scheduling_of_outsideNotices {s t : State} (h : t.outsideNotices = s.outsideNotices) :
    t.scheduling = s.scheduling := by
  have view : t.outsideNotices.scheduling = s.outsideNotices.scheduling := congrArg State.scheduling h
  exact view

namespace State

theorem raise_scheduling (e : Event) (s : State) : (s.raise e).scheduling = s.scheduling :=
  scheduling_of_outsideNotices (s.raise_frame e)

theorem raiseFor_scheduling (i : RecIdx) (d : Detail) (s : State) : (s.raiseFor i d).scheduling = s.scheduling :=
  s.raise_scheduling _

/-- A write of a placed record that leaves what it holds of a defrost. -/
theorem setRecord_scheduling {s : State} {i : RecIdx} {r x : TrailerRecord} (hr : s.record? i = some r)
    (hx : x.defrosting = r.defrosting) : (s.setRecord i (some x)).scheduling = s.scheduling := by
  have defrosts : (fun j => ((s.setRecord i (some x)).record? j).map TrailerRecord.defrosting) =
      fun j => (s.record? j).map TrailerRecord.defrosting := by
    funext j
    rw [State.record?_setRecord]
    split
    · next same => rw [← same, hr, Option.map_some, Option.map_some, hx]
    · rfl
  rw [scheduling, defrosts]
  rfl

theorem updRecord_scheduling (i : RecIdx) (f : TrailerRecord → TrailerRecord) (s : State)
    (hf : ∀ r, (f r).defrosting = r.defrosting := by exact fun _ => rfl) : (s.updRecord i f).scheduling = s.scheduling := by
  cases hr : s.record? i with
  | none => rw [updRecord, hr]
  | some r =>
    rw [updRecord_of_some hr]
    exact setRecord_scheduling hr ((TrailerRecord.marking_defrosting r (f r)).trans (hf r))

/-! ## Commands -/

theorem queueCommand_scheduling (i : RecIdx) (c : Command) (s : State) :
    (s.queueCommand i c).scheduling = s.scheduling := s.updRecord_scheduling i fun r => { r with slot := .queued c }

theorem handOff_scheduling (i : RecIdx) (w : Command) (s : State) : (s.handOff i w).scheduling = s.scheduling := by
  unfold handOff
  split
  · rfl
  · split
    · rfl
    · split
      · exact s.queueCommand_scheduling i w
      · exact s.updRecord_scheduling i _
      · split
        · rfl
        · exact s.updRecord_scheduling i _
      · split <;> exact s.updRecord_scheduling i _

theorem clearFlight_scheduling (i : RecIdx) (s : State) : (s.clearFlight i).scheduling = s.scheduling := by
  unfold clearFlight
  split
  · rfl
  · split
    · exact s.updRecord_scheduling i _
    · exact s.queueCommand_scheduling i _
    · rfl
    · rfl

theorem matchConfirmation_scheduling (i : RecIdx) (c : Option Nat) (s : State) :
    (s.matchConfirmation i c).scheduling = s.scheduling := by
  unfold matchConfirmation
  split
  · split
    · split
      · exact s.clearFlight_scheduling i
      · rfl
    · rfl
  · rfl

theorem requeueOnEcho_scheduling (i : RecIdx) (echo : ModeEcho) (s : State) :
    (s.requeueOnEcho i echo).scheduling = s.scheduling := by
  unfold requeueOnEcho
  split
  · split
    · exact s.queueCommand_scheduling i _
    · rfl
  · rfl

theorem timeoutCommand_scheduling (i : RecIdx) (s : State) : (s.timeoutCommand i).scheduling = s.scheduling := by
  unfold timeoutCommand
  split
  · rfl
  · exact (clearFlight_scheduling _ _).trans (raiseFor_scheduling _ _ _)

theorem forgetCommands_scheduling (i : RecIdx) (s : State) : (s.forgetCommands i).scheduling = s.scheduling :=
  s.updRecord_scheduling i fun r => { r with slot := .empty }

theorem sendHead_scheduling (s : State) : s.sendHead.1.scheduling = s.scheduling := by
  unfold sendHead
  split
  · rfl
  · split
    · rfl
    · next i rest _ =>
      simp only
      split
      · rfl
      · split
        · exact updRecord_scheduling i _ { s with downlink := rest }
        · rfl
        · rfl
        · rfl

/-! ## The Estimator -/

theorem evaluateFuel_scheduling (i : RecIdx) (level : Nat) (s : State) :
    (s.evaluateFuel i level).scheduling = s.scheduling := by
  unfold evaluateFuel
  split
  · rfl
  · simp only
    split
    · exact (raiseFor_scheduling _ _ _).trans (s.updRecord_scheduling i _)
    · exact s.updRecord_scheduling i _

theorem fuelCase_scheduling (i : RecIdx) (f : Nat) (stamp : YardTime) (s : State) :
    (s.fuelCase i f stamp).scheduling = s.scheduling := by
  unfold fuelCase
  split
  · rfl
  · split
    · exact s.updRecord_scheduling i _
    · split
      · exact s.updRecord_scheduling i _
      · split
        · exact ((updRecord_scheduling i _ _).trans (raiseFor_scheduling _ _ _)).trans (s.updRecord_scheduling i _)
        · split
          · exact s.updRecord_scheduling i _
          · rfl

theorem fuelUpdate_scheduling (i : RecIdx) (source : Source) (x : Readings) (s : State) :
    (s.fuelUpdate i source x).scheduling = s.scheduling := by
  unfold fuelUpdate
  split
  · exact (evaluateFuel_scheduling _ _ _).trans (s.fuelCase_scheduling i _ _)
  · rfl

theorem postFuel_scheduling (i : RecIdx) (level : Nat) (refuelled : Bool) (s : State) :
    (s.postFuel i level refuelled).scheduling = s.scheduling := by
  have posted := s.updRecord_scheduling i fun r => { r with fuelRef := some level, fuelAge := 0 }
  unfold postFuel
  refine (evaluateFuel_scheduling _ _ _).trans ?_
  split
  · exact ((raiseFor_scheduling _ _ _).trans (updRecord_scheduling i _ _)).trans posted
  · exact posted

theorem closeItem_scheduling (m : Master) (i : RecIdx) (t : Tag) (result : CloseResult) (s : State) :
    (s.closeItem m i t result).scheduling = s.scheduling := by
  cases result with
  | secure | ajar => rfl
  | damaged => exact raise_scheduling _ _
  | fuel level refuelled => exact postFuel_scheduling i level refuelled _

/-! ## The map, the counts and the flags -/

theorem doMove_scheduling (i : RecIdx) (t : Tag) (b : BayAddr) (s : State) :
    (s.doMove i t b).1.scheduling = s.scheduling := by
  rcases s.doMove_cases i t b with h | ⟨r, hr, -, h⟩ <;> rw [h]
  exact setRecord_scheduling (s := (s.setBay r.bay _).setBay b _) hr (TrailerRecord.marking_defrosting r { r with bay := b })

theorem doSweepSeen_scheduling (s : State) : s.doSweepSeen.1.scheduling = s.scheduling := by
  refine scheduling_of_records (g := fun _ r => { r with seen := false }) (fun i => ?_) (fun _ _ => rfl) ?_
  · simp [doSweepSeen, record?]
  · simp only [doSweepSeen]

theorem countTick_scheduling (s : State) : s.countTick.scheduling = s.scheduling :=
  scheduling_of_records s.record?_countTick (fun _ r => r.tick_defrosting) (by rw [s.countTick_frame])

theorem lookup_scheduling (w : Waiter) (t : Tag) (s : State) : (s.lookup w t).1.scheduling = s.scheduling := by
  obtain ⟨c, e, l, h⟩ := s.lookup_frame w t
  rw [h]
  rfl

end State

end Sys2Proof.Machine
end

section
/-! # Properties of the chains, the queue, the grants and the feeders that every step keeps -/

namespace Sys2Proof.Machine

open Sys2Proof

/-- A property that reads only chains, grants, the queue and the feeders, that a cold part has, and that each operation that
writes them keeps. -/
structure SchedulingInvariant (P : State → Prop) : Prop where
  of_scheduling : ∀ {s t : State}, P s → t.scheduling = s.scheduling → P t
  cold : P State.reset
  restart : ∀ {s : State} (cause : RestartCause) (strap : Bool), P s → P (s.warmRestart cause strap)
  place : ∀ {s : State} {i : RecIdx} (t : Tag) (b : BayAddr) (source : Option Source) (load : Option Nat) (threshold : Nat),
    s.record? i = none → P s → P (s.setRecord i (some (TrailerRecord.placed t b source load threshold)))
  release : ∀ {s : State} (i : RecIdx) (t : Tag), P s → P (s.doRelease i t).1
  pushHold : ∀ {s : State} (i : RecIdx) {k : Activity} (setBy : Option Master), k.isHold → P s → P (s.pushActivity i k setBy)
  dropHold : ∀ {s : State} (i : RecIdx) {k : Activity}, k.isHold → P s → P (s.removeActivity i k)
  join : ∀ {s : State} {i : RecIdx} {r : TrailerRecord} (excess : Nat) (manual : Bool) (passCount : Nat),
    s.record? i = some r → ¬ r.holds .defrost → P s → P (s.joinQueue i excess manual passCount)
  leave : ∀ {s : State} (i : RecIdx), P s → P (s.leaveQueue i)
  rewrite : ∀ {s : State} {i : RecIdx} {e : QueueEntry} (excess : Nat) (manual : Bool),
    s.entryOf i = some e → P s → P (s.rewriteEntry { e with excess := excess, manual := manual })
  grantPass : ∀ {s : State}, P s → P s.grantPass
  endDefrost : ∀ {s : State} (i : RecIdx) (k : EndKind), P s → P (s.endDefrost i k)
  sourceChange : ∀ {s : State} (i : RecIdx), P s → P (s.sourceChange i)
  setBudget : ∀ {s : State} (f : FeederNo) (value : Nat), P s → P (s.doSetBudget f value).1

namespace SchedulingInvariant

variable {P : State → Prop} (inv : SchedulingInvariant P) {s : State}
include inv

theorem of_notices {t : State} (h : P s) (frame : t.outsideNotices = s.outsideNotices) : P t :=
  inv.of_scheduling h (scheduling_of_outsideNotices frame)

/-! ## Demand and passes -/

section
variable (h : P s) (i : RecIdx)
include h

theorem updRecord (f : TrailerRecord → TrailerRecord)
    (hf : ∀ r, (f r).defrosting = r.defrosting := by exact fun _ => rfl) : P (s.updRecord i f) :=
  inv.of_scheduling h (s.updRecord_scheduling i f hf)

theorem raiseFor (d : Detail) : P (s.raiseFor i d) := inv.of_scheduling h (s.raiseFor_scheduling i d)

theorem evaluateDemand : P (s.evaluateDemand i) := by
  unfold State.evaluateDemand
  split
  · exact h
  · next r hr =>
    split
    · next demand =>
      obtain ⟨-, noDefrost, -⟩ := demand
      exact inv.raiseFor (inv.join _ _ _ hr noDefrost h) i _
    · exact h

theorem recomputeExcess : P (s.recomputeExcess i) := by
  unfold State.recomputeExcess
  split
  · next r e _ he =>
    split
    · exact h
    · split
      · exact inv.rewrite _ e.manual he h
      · exact inv.leave i h
  · exact h

theorem endDefrost_grantPass (k : EndKind) : P (s.endDefrost i k).grantPass := inv.grantPass (inv.endDefrost i k h)

theorem terminationTest (x : Readings) : P (s.terminationTest i x) := by
  unfold State.terminationTest
  split
  · exact h
  · split
    · exact inv.endDefrost i _ h
    · exact h

/-! ## Reports and consequences of a tick -/

theorem doorStep (door : Door) (previous : Option Door) : P (s.doorStep i door previous) := by
  unfold State.doorStep
  split
  · split
    · exact h
    · exact inv.pushHold i _ ⟨nofun, nofun⟩ (inv.updRecord h i _)
  · split
    · exact h
    · exact inv.dropHold i ⟨nofun, nofun⟩ (inv.updRecord h i _)

/-- An accepted report, step by step of Table 3-4. -/
theorem applyReport (r : TrailerRecord) (u : UnitReport) (echo : ModeEcho) : P (s.applyReport i r u echo) := by
  have stored : P (s.storeReport i u (u.readings echo)) := inv.updRecord h i _
  have frosted : P ((s.storeReport i u (u.readings echo)).frostUpdate i (u.readings echo) r.doorHistory (timeStep r)) :=
    inv.updRecord stored i _
  have estimated := inv.of_scheduling frosted (State.fuelUpdate_scheduling i u.source (u.readings echo) _)
  have defrost := inv.terminationTest (inv.sourceChange i (inv.doorStep estimated i u.door r.doorHistory)) i
    (u.readings echo)
  have commands := inv.of_scheduling defrost ((State.requeueOnEcho_scheduling i echo _).trans
    (State.matchConfirmation_scheduling i u.confirmed _))
  have demanded := inv.grantPass (inv.evaluateDemand (inv.recomputeExcess commands i) i)
  exact inv.updRecord demanded i fun r => { r with seen := true, changed := true }

omit i in
theorem take (e : TickEvent) : P (s.take e) := by
  cases e with
  | rollover => exact inv.of_notices h s.testPlans_frame
  | silent i =>
    show P (s.fallSilent i)
    unfold State.fallSilent
    exact inv.raiseFor (inv.updRecord h i _) i _
  | doorLong i =>
    show P (s.openLong i)
    unfold State.openLong
    split
    · exact h
    · exact inv.raiseFor (inv.updRecord h i _) i _
  | abandon i => exact inv.endDefrost_grantPass h i _
  | timeOut i => exact inv.endDefrost_grantPass h i _
  | waitOver i => exact inv.grantPass (inv.updRecord h i _)
  | unconfirmed i => exact inv.of_scheduling h (s.timeoutCommand_scheduling i)
  | checkTimeout i k => exact inv.of_notices h (s.timeoutItem_frame i k)
  | windowOver m => exact inv.of_notices h (s.closeWindow_frame m)

end

theorem takeAll (l : List TickEvent) (h : P s) : P (State.takeAll l s) := by
  induction l generalizing s with
  | nil => exact inv.of_scheduling h rfl
  | cons e rest ih => exact ih (inv.take (s := { s with due := rest }) (inv.of_scheduling h rfl) e)

theorem settle (h : P s) : P s.settle := inv.takeAll s.due h

theorem takeDue (e : TickEvent) (h : P s) : P (s.takeDue e) := by
  unfold State.takeDue
  split
  · exact inv.take (s := { s with due := s.due.erase e }) (inv.of_scheduling h rfl) e
  · exact h

theorem secondTick (h : P s) : P s.secondTick := by
  unfold State.secondTick
  split
  · exact inv.of_scheduling h s.countTick_scheduling
  · split
    · exact h
    · exact inv.of_scheduling h rfl
  · exact h

/-! ## Requests on a resolved trailer -/

section
variable (h : P s) (i : RecIdx)
include h

theorem doDefrostRequest (m : Master) : P (s.doDefrostRequest m i).1 := by
  unfold State.doDefrostRequest
  split
  · exact h
  · next r hr =>
    split
    · exact h
    · next noDefrost =>
      have unlatched : P (s.updRecord i fun r => { r with cancelLatch := false }) := inv.updRecord h i _
      refine inv.grantPass ?_
      split
      · refine inv.raiseFor (inv.join (r := r.marking { r with cancelLatch := false }) _ _ _ ?_ ?_ unlatched) i _
        · rw [State.updRecord_of_some hr, State.record?_setRecord_self]
        · rwa [TrailerRecord.holds, TrailerRecord.marking_chain]
      · next he => exact inv.rewrite _ _ he unlatched

theorem doDefrostCancel : P (s.doDefrostCancel i).1 := by
  unfold State.doDefrostCancel
  simp only
  split
  · exact inv.updRecord (inv.leave i h) i _
  · split
    · exact inv.endDefrost_grantPass h i _
    · exact inv.updRecord h i _
  · exact h

theorem doHoldClear : P (s.doHoldClear i).1 := by
  have dropped : P (s.removeActivity i .serviceHold) := inv.dropHold i ⟨nofun, nofun⟩ h
  unfold State.doHoldClear
  simp only
  split
  · exact inv.grantPass (inv.evaluateDemand dropped i)
  · exact dropped

omit i in
theorem actOn (m : Master) (req : Request) (res : Resolved) : P (s.actOn m req res).1 := by
  cases req with
  | recordGet n =>
    show P (s.doRecordGet m res.record).1
    unfold State.doRecordGet
    split <;> exact h
  | collect n =>
    show P (s.doCollect res.record).1
    unfold State.doCollect
    split
    · exact h
    · next hr => exact inv.of_scheduling h (State.setRecord_scheduling hr rfl)
  | recordEdit n load override =>
    show P (s.doRecordEdit res.record load override).1
    unfold State.doRecordEdit
    split
    · exact h
    · split
      · exact h
      · exact inv.updRecord h res.record _
  | move t b => exact inv.of_scheduling h (s.doMove_scheduling res.record t b)
  | release t => exact inv.release res.record t h
  | defrostRequest n => exact inv.doDefrostRequest h res.record m
  | defrostCancel n => exact inv.doDefrostCancel h res.record
  | holdSet n =>
    show P (s.doHoldSet m res.record).1
    unfold State.doHoldSet
    split
    · exact h
    · exact inv.pushHold res.record _ ⟨nofun, nofun⟩ h
  | holdClear n =>
    simp only [State.actOn]
    split
    · exact inv.doHoldClear h res.record
    · exact h
  | fuelPost n level refuelled => exact inv.of_scheduling h (s.postFuel_scheduling res.record level refuelled)
  | checkAdd n k p => exact inv.of_notices h (s.doCheckAdd_frame res.record k p)
  | checkClose t result =>
    simp only [State.actOn]
    split
    · exact inv.of_scheduling h (s.closeItem_scheduling m res.record t result)
    · exact h
  | revoke n deferral =>
    simp only [State.actOn]
    split
    · exact inv.endDefrost_grantPass h res.record _
    · exact h
  | _ => exact h

omit i in
theorem judge (m : Master) (req : Request) (n : Subject) (res : Resolved) : P (s.judge m req n res).1 := by
  unfold State.judge
  split
  · exact inv.of_scheduling h (s.raiseFor_scheduling res.record _)
  · split
    · exact h
    · exact inv.actOn h m req res

end

/-! ## Requests that name no placed trailer -/

section
variable (h : P s) (m : Master)
include h

omit m in
theorem doPlace (t : Tag) (b : BayAddr) (source : Option Source) (load : Option Nat) : P (s.doPlace t b source load).1 := by
  unfold State.doPlace
  split
  · exact h
  · split
    · exact h
    · next i hfree =>
      have placed := inv.place t b source load s.zones[b.zone].frostThreshold (State.firstFree_eq_some hfree) h
      exact inv.of_scheduling placed rfl

theorem actPlain (req : Request) : P (s.actPlain m req).1 := by
  cases req with
  | zoneSet z e =>
    show P (s.doZoneSet z e).1
    rw [State.doZoneSet_eq]
    split <;> exact inv.of_scheduling h rfl
  | sweepSeen => exact inv.of_scheduling h s.doSweepSeen_scheduling
  | clockTrim =>
    show P s.doClockTrim.1
    unfold State.doClockTrim
    split
    · split
      · exact inv.of_notices (s := { s with clock := s.clock.nextMinute }) (inv.of_scheduling h rfl) (State.testPlans_frame _)
      · exact inv.of_scheduling h rfl
    · exact h
  | configSet v =>
    cases v with
    | attention n mode =>
      show P (s.setAttention n mode)
      unfold State.setAttention
      split <;> exact inv.of_scheduling h rfl
    | _ => exact inv.of_scheduling h rfl
  | fetchNotice =>
    show P (s.doFetch m).1
    unfold State.doFetch
    simp only
    split <;> exact inv.of_scheduling h rfl
  | releaseNotices => exact inv.of_notices h (s.closeWindow_frame m)
  | setBudget f value => exact inv.setBudget f value h
  | _ => exact inv.of_scheduling h rfl

/-! ## Lookups, and requests that wait for them -/

theorem goOn (req : Request) (a : Answer) : P (s.goOn m req a).1 := by
  unfold State.goOn
  split
  · exact inv.of_scheduling h rfl
  · split
    · exact h
    · split
      · exact inv.judge h m req _ _
      · exact h
  · split
    · exact inv.doPlace h _ _ _ _
    · split <;> exact h

theorem lookupFor (req : Request) (t : Tag) : P (s.lookupFor m req t).1 :=
  inv.goOn (inv.of_scheduling h (s.lookup_scheduling (.master m) t)) m req _

theorem offerItems (n : Nat) (considered : List Nat) : P (s.offerItems m n considered).1 := by
  induction n generalizing considered s with
  | zero => exact h
  | succ n ih =>
    unfold State.offerItems
    split
    · exact h
    · next it _ =>
      have looked : P (s.lookup (.master m) it.tag).1 := inv.of_scheduling h (s.lookup_scheduling _ _)
      split <;> rename_i heq <;> rw [heq] at looked
      · split
        · exact inv.of_scheduling looked rfl
        · exact ih looked _
      · exact ih looked _
      · exact inv.of_scheduling looked rfl

theorem resumeNextCheck (considered : List Nat) (item : Nat) (a : Answer) :
    P (s.resumeNextCheck m considered item a).1 := by
  unfold State.resumeNextCheck
  simp only
  split
  · split
    · exact inv.of_scheduling h rfl
    · exact inv.offerItems h m _ _
  · exact inv.offerItems h m _ _

theorem takeRequest (req : Request) : P (s.takeRequest m req).1 := by
  unfold State.takeRequest
  split
  · unfold State.startNextCheck
    split
    · exact h
    · exact inv.offerItems h m _ _
  · split
    · exact inv.lookupFor h m _ _
    · exact h
  · split
    · exact inv.actPlain h m _
    · exact inv.lookupFor h m _ _
    · split
      · exact h
      · exact inv.judge h m _ _ _

omit h in
theorem answer {r : State × Option MasterReply} (h : P r.1) (kind : Byte) : P (State.answer m kind r) := by
  unfold State.answer
  split
  · exact inv.of_scheduling h rfl
  · exact h

end

/-! ## The Report Intake -/

section
variable (h : P s)
include h

theorem dropHead : P s.dropHead := inv.of_scheduling h rfl

theorem discardUnknown (u : UnitReport) : P (s.discardUnknown u) :=
  inv.dropHead (inv.of_scheduling h (s.raise_scheduling _))

theorem answerIntake (a : Answer) : P (s.answerIntake a) := by
  unfold State.answerIntake
  split
  · exact inv.of_scheduling h rfl
  · exact inv.discardUnknown h _
  · exact inv.of_scheduling h rfl
  · exact inv.of_scheduling h rfl

theorem takeHead : P s.takeHead := by
  unfold State.takeHead
  split
  · split
    · exact inv.of_scheduling h rfl
    · exact inv.answerIntake (inv.of_scheduling h (s.lookup_scheduling _ _)) _
  · exact h

theorem applyHead : P s.applyHead := by
  unfold State.applyHead
  split
  · split
    · exact inv.discardUnknown h _
    · split
      · exact inv.discardUnknown h _
      · split
        · exact inv.of_scheduling h rfl
        · split
          · exact inv.of_scheduling h rfl
          · exact inv.dropHead (inv.applyReport h _ _ _ _)
  · exact h

theorem arrive (u : UnitReport) : P (s.arrive u).1 := by
  unfold State.arrive
  split
  · exact inv.of_scheduling h rfl
  · exact inv.of_scheduling h (s.raise_scheduling _)

/-! ## Frames and searches -/

theorem replyUnit (kind : Byte) (status : UnitStatus) : P (s.replyUnit kind status) :=
  inv.of_scheduling (inv.of_scheduling h s.sendHead_scheduling) rfl

theorem takeUnit (k : Kind) (body : List Byte) : P (s.takeUnit k body) := by
  unfold State.takeUnit
  split
  · exact inv.replyUnit (inv.arrive h _) _ _
  · exact inv.replyUnit h _ _

theorem judgeFrame (p : PortId) (kind : Byte) (body : List Byte) : P (s.judgeFrame p kind body) := by
  have refused : ∀ master unit, P (s.refuse p kind master unit) := fun _ _ => inv.of_scheduling h rfl
  unfold State.judgeFrame
  split
  · exact refused _ _
  · split
    · exact refused _ _
    · split
      · exact refused _ _
      · split
        · exact inv.takeUnit h _ body
        · split
          · exact refused _ _
          · exact inv.answer _ (inv.takeRequest h _ _) kind

theorem receiveFrame (p : PortId) (kind : Byte) (body : List Byte) : P (State.receiveFrame p kind body s) := by
  by_cases hsupply : s.supply = .inService
  · have received : P (s.received p) := inv.of_scheduling h rfl
    rw [receiveFrame_inService hsupply]
    split
    · exact inv.judgeFrame received p kind body
    · unfold State.oweBusy
      split
      · exact received
      · exact received
      · exact inv.of_scheduling received rfl
  · rw [receiveFrame_outOfService hsupply]
    exact h

theorem setReceiver (p : PortId) (r : Receiver) : P (State.setReceiver p r s) := by
  unfold State.setReceiver
  split
  · exact inv.of_scheduling h rfl
  · exact h

theorem completeReply (p : PortId) : P (s.completeReply p) := by
  unfold State.completeReply
  simp only
  split
  · exact h
  · split
    · split <;> exact inv.of_scheduling h rfl
    · exact inv.of_scheduling h rfl
    all_goals exact h

theorem deliver (w : Waiter) (a : Answer) : P (s.deliver w a) := by
  unfold State.deliver
  split
  · exact inv.answerIntake h a
  · next m =>
    split
    · next held _ =>
      refine inv.answer m ?_ _
      cases held with
      | request req => exact inv.goOn h m req a
      | nextCheck considered item => exact inv.resumeNextCheck h m considered item a
    all_goals exact h

theorem completeSearch : P s.completeSearch := by
  unfold State.completeSearch
  split
  · exact h
  · next q _ =>
    obtain ⟨c, result⟩ := State.searchResult_frame q.tag s
    have searched : P (s.searchResult q.tag).1 := by
      rw [result]
      exact inv.of_scheduling h rfl
    exact inv.of_scheduling (inv.deliver searched q.waiter _) rfl

/-! ## Supplies -/

theorem failMains : P s.failMains := by
  unfold State.failMains
  split
  · exact inv.of_scheduling h rfl
  · exact h
  · exact h

theorem returnMains (strap : Bool) : P (s.returnMains strap) := by
  unfold State.returnMains
  split
  · split
    · exact inv.of_scheduling inv.cold rfl
    · exact inv.restart _ strap h
  · exact h
  · exact h

theorem yardRestart (strap : Bool) : P (s.yardRestart strap) := by
  unfold State.yardRestart
  split
  · exact inv.restart _ strap h
  · exact h

theorem applySupply : P s.applySupply := by
  unfold State.applySupply
  split
  · exact inv.of_scheduling h rfl
  · exact h
  · exact h

theorem endPulse (m : Master) : P (s.endPulse m) := by
  unfold State.endPulse
  split <;> exact inv.of_scheduling h rfl

omit inv in
theorem whenInService {f : State → State} (hf : P (f s)) : P (s.whenInService f) := by
  unfold State.whenInService
  split
  · exact hf
  · exact h

/-! ## Every command -/

theorem exec {c : Instr} {t : State} (run : Machine.exec c s = .next t) : P t := by
  have settled : P s.settle := inv.settle h
  cases c with
  | unitReport p body | poll p body | unknownKind p kind body | portBusy p kind body | zoneSet p body | zoneGet p body
  | baySet p body | place p body | move p body | release p body | recordGet p body | recordEdit p body | collect p body
  | scanChanged p body | sweepSeen p body | flushTags p body | clockSet p body | clockTrim p body | clockGet p body
  | planSet p body | planGet p body | linkSet p body | linkGet p body | configSet p body | configGet p body
  | defrostRequest p body | defrostCancel p body | holdSet p body | holdClear p body | fuelPost p body | checkAdd p body
  | checkClose p body | checkList p body | queueGet p body | feederGet p body | fetchNotice p body | holdNotices p body
  | releaseNotices p body | statusGet p body | yardRestart p body | setBudget p body | revoke p body | nextCheck p body =>
    cases run
    exact inv.receiveFrame settled p _ body
  | frameCheckFail p | interbyteTimeout p | syncByte p =>
    cases run
    exact inv.setReceiver settled p _
  | bodyLengthAbove120 p length =>
    cases run
    split
    · exact inv.setReceiver settled p _
    · exact settled
  | replyComplete p =>
    cases run
    exact whenInService settled (inv.completeReply settled p)
  | searchComplete =>
    cases run
    exact whenInService settled (inv.completeSearch settled)
  | takeHead =>
    cases run
    exact whenInService settled (inv.takeHead settled)
  | reportApplication =>
    cases run
    exact whenInService settled (inv.applyHead settled)
  | pulseEnd m =>
    cases run
    exact whenInService settled (inv.endPulse settled m)
  | minuteRollover | unitSilent i | doorOpenLong i | abandoned i | timedOut i | defrostNotBeforeZero i | cmdUnconfirmed i
  | checkTimeout i k | suppressionWindowExpiry m =>
    cases run
    exact inv.takeDue _ h
  | secondTick =>
    cases run
    exact inv.secondTick settled
  | restartAct strap =>
    cases run
    exact inv.yardRestart settled strap
  | supplyApplied =>
    cases run
    exact inv.applySupply settled
  | mfailAsserted =>
    cases run
    exact inv.failMains settled
  | mfailReleased strap =>
    cases run
    exact inv.returnMains settled strap
  | supplyLoss =>
    cases run
    exact inv.of_scheduling inv.cold rfl

/-- A step runs the command at the front of the queue, or idles. -/
theorem step {t : State} (run : Machine.step s = .next t) : P t := by
  unfold Machine.step at run
  split at run
  · cases run
    exact h
  · next c rest _ => exact inv.exec (s := { s with pending := rest }) (inv.of_scheduling h rfl) run

end

end SchedulingInvariant

end Sys2Proof.Machine
end

section
/-! # Every step keeps the chains and their run data -/

namespace Sys2Proof.Machine

open Sys2Proof

/-! ## One record -/

/-- A resumed defrost keeps its run data (R85). -/
theorem resumeRun_isSome (newest : Activity) (run : Option RunData) : (resumeRun newest run).isSome = run.isSome := by
  cases newest with
  | defrost => exact Option.isSome_map
  | cool | doorHold | serviceHold => rfl

theorem TrailerRecord.chainAndRunOk.of_same {r x : TrailerRecord} (ok : r.chainAndRunOk) (chain : x.chain = r.chain)
    (run : x.run.isSome = r.run.isSome) : x.chainAndRunOk := by
  rwa [TrailerRecord.chainAndRunOk, TrailerRecord.holds, chain, run]

theorem TrailerRecord.chainAndRunOk.of_defrosting {r x : TrailerRecord} (ok : r.chainAndRunOk)
    (same : x.defrosting = r.defrosting) : x.chainAndRunOk := by
  obtain ⟨chain, run⟩ := Prod.mk.inj same
  have present := congrArg Option.isSome run
  rw [Option.isSome_map, Option.isSome_map] at present
  exact ok.of_same chain present

theorem TrailerRecord.marking_run (old new : TrailerRecord) : (old.marking new).run = new.run := by
  obtain ⟨c, marked⟩ := old.marking_eq new
  rw [marked]

theorem State.leavesAt_updRecord {s : State} {i : RecIdx} {r : TrailerRecord} (hr : s.record? i = some r)
    (f : TrailerRecord → TrailerRecord) : State.leavesAt i (r.marking (f r)) s (s.updRecord i f) := by
  rw [State.updRecord_of_some hr]
  exact ⟨State.record?_setRecord_self _ _ _, fun j hj => State.record?_setRecord_ne _ _ hj.symm⟩

/-- Only a record at [COOL] is eligible for a grant (R98). -/
theorem State.atBase_of_eligible {s : State} {r : TrailerRecord} (h : s.eligible r = true) : r.atBase = true := by
  simp only [State.eligible, Bool.and_eq_true] at h
  obtain ⟨⟨⟨-, base⟩, -⟩, -⟩ := h
  exact base

theorem TrailerRecord.not_holds_defrost_of_atBase {r : TrailerRecord} (base : r.atBase = true) : r.holds .defrost = false := by
  have kinds : r.chain.map ChainEntry.kind = [.cool] := of_decide_eq_true base
  rw [← Bool.not_eq_true, TrailerRecord.holds_iff, kinds]
  decide

namespace State.chainsOk

variable {s t : State} (ok : s.chainsOk)
include ok

theorem of_scheduling (h : t.scheduling = s.scheduling) : t.chainsOk := by
  intro i r hr
  obtain ⟨x, hx, same⟩ := State.record?_of_scheduling h hr
  have good : x.chainAndRunOk := ok i x hx
  exact good.of_defrosting same.symm

theorem of_records (h : t.records = s.records) : t.chainsOk := by
  intro i r hr
  refine ok i r ?_
  rwa [State.record?, ← h]

theorem of_leavesAt {i : RecIdx} {x : TrailerRecord} (h : State.leavesAt i x s t) (hx : x.chainAndRunOk) : t.chainsOk := by
  obtain ⟨here, others⟩ := h
  intro j r hr
  by_cases hj : j = i
  · subst hj
    cases here.symm.trans hr
    exact hx
  · exact ok j r ((others j hj).symm.trans hr)

variable (i : RecIdx)

theorem setRecord {x : Option TrailerRecord} (h : ∀ r, x = some r → r.chainAndRunOk) : (s.setRecord i x).chainsOk := by
  intro j r hr
  rw [State.record?_setRecord] at hr
  split at hr
  · exact h r hr
  · exact ok j r hr

theorem setRecord_some {x : TrailerRecord} (h : x.chainAndRunOk) : (s.setRecord i (some x)).chainsOk := by
  refine ok.setRecord i ?_
  rintro _ ⟨⟩
  exact h

/-! ## Holds -/

/-- A hold is pushed onto whatever stands (R78, R80). -/
theorem pushHold {k : Activity} (hk : k.isHold) (setBy : Option Master) : (s.pushActivity i k setBy).chainsOk := by
  cases hr : s.record? i with
  | none => rwa [State.pushActivity, hr]
  | some r =>
    cases held : r.holds k with
    | true => rwa [State.pushActivity_of_holds hr held]
    | false =>
      have good : r.chainAndRunOk := ok i r hr
      rw [State.pushActivity_of_absent hr held]
      refine of_scheduling (ok.setRecord_some i ?_) (State.handOff_scheduling _ _ _)
      exact good.push_hold hk held rfl rfl

/-- A hold is removed from the top or from beneath (R79, R81). -/
theorem dropHold {k : Activity} (hk : k.isHold) : (s.removeActivity i k).chainsOk := by
  cases hr : s.record? i with
  | none => rwa [State.removeActivity, hr]
  | some r =>
    have good : r.chainAndRunOk := ok i r hr
    cases held : r.holds k with
    | false => rwa [State.removeActivity_of_absent hr held]
    | true =>
      by_cases newest : r.effective = k
      · rw [State.removeActivity_of_newest hr held newest]
        refine of_scheduling (ok.setRecord_some i ?_) (State.handOff_scheduling _ _ _)
        exact good.drop_hold hk rfl (resumeRun_isSome _ _)
      · rw [State.removeActivity_of_beneath hr held newest]
        exact ok.setRecord_some i (good.drop_hold hk rfl rfl)

/-! ## Grants -/

/-- DEFROST pushed onto a record at [COOL] whose run data has been made. -/
theorem pushDefrost {x : TrailerRecord} (found : State.leavesAt i x s t) (base : x.atBase = true)
    (run : x.run.isSome = true) (setBy : Option Master) : (t.pushActivity i .defrost setBy).chainsOk := by
  have good : ({ x with chain := pushOn x.chain .defrost setBy, changed := true } : TrailerRecord).chainAndRunOk :=
    TrailerRecord.chainAndRunOk.push_defrost base rfl run
  have pushed := ok.of_leavesAt (found.setRecord _) good
  rw [State.pushActivity_of_absent found.1 (TrailerRecord.not_holds_defrost_of_atBase base)]
  exact pushed.of_scheduling (State.handOff_scheduling _ _ _)

/-- A grant makes the run data of a record at [COOL], and then pushes DEFROST (R102). -/
theorem grant {r : TrailerRecord} (hr : s.record? i = some r) (base : r.atBase = true) (feeder : Option FeederNo)
    (load : Nat) : (s.grant i feeder load).chainsOk := by
  have written : State.leavesAt i _ s _ := State.leavesAt_updRecord (s := s.leaveQueue i) hr fun r =>
    { r with run := some { grant := s.nextGrant, feeder := feeder, load := load, heating := 0, paused := 0 } }
  unfold State.grant
  refine ok.pushDefrost i (written.of_records ?_) ?_ ?_ none
  · cases feeder <;> rfl
  · rwa [TrailerRecord.atBase, TrailerRecord.marking_chain]
  · rw [TrailerRecord.marking_run]
    rfl

omit ok in
theorem consider {p : Pass} (ok : p.state.chainsOk) : (p.consider i).state.chainsOk := by
  unfold Pass.consider
  split
  · next r _ hr =>
    split
    · next eligible =>
      have granted := ok.grant i hr (State.atBase_of_eligible eligible)
      simp only
      split
      · exact granted none _
      · next f _ =>
        split
        · split
          · exact ok
          · exact (granted (some f) _).of_records rfl
        · split
          · split <;> exact ok
          · exact ok
    · exact ok
  · exact ok

omit i in
/-- A grant pass, entry by entry and then event by event. -/
theorem grantPass : s.grantPass.chainsOk := by
  have walked : s.walkQueue.state.chainsOk :=
    List.foldlRecOn (motive := fun p : Pass => p.state.chainsOk) _ Pass.consider ok fun _ ok i _ => consider i ok
  exact List.foldlRecOn (motive := State.chainsOk) _ State.raiseShort walked fun s ok x _ =>
    ok.of_scheduling (scheduling_of_outsideNotices (s.raiseShort_frame x))

/-! ## Ends -/

/-- An end takes DEFROST and the run data from its record together (R106). -/
theorem endDefrost (k : EndKind) : (s.endDefrost i k).chainsOk := by
  cases hd : (s.record? i).bind TrailerRecord.run with
  | none => rwa [State.endDefrost, hd]
  | some d =>
    obtain ⟨r, hr, hrun⟩ := Option.bind_eq_some_iff.mp hd
    have good : r.chainAndRunOk := ok i r hr
    obtain ⟨slot, left, -⟩ := State.endDefrost_leavesAt hr hrun k
    exact ok.of_leavesAt left (good.drop_defrost rfl rfl)

theorem joinQueue (excess : Nat) (manual : Bool) (n : Nat) : (s.joinQueue i excess manual n).chainsOk :=
  ok.of_records (congrArg Prod.fst (s.joinQueue_keeps i excess manual n))

omit i in
theorem cutGrants (f : FeederNo) (n : Nat) : (State.cutGrants f n s).chainsOk := by
  induction n generalizing s with
  | zero => exact ok
  | succ n ih =>
    unfold State.cutGrants
    split
    · exact ok
    · split
      · exact ok
      · exact ih (ok.endDefrost _ _)

omit i in
theorem doSetBudget (f : FeederNo) (value : Nat) : (s.doSetBudget f value).1.chainsOk := by
  have set : (s.setFeeder f { s.feeders[f] with budget := min value Config.maxBudget }).chainsOk := ok
  unfold State.doSetBudget
  simp only
  split
  · exact set.grantPass
  · split
    · exact (set.cutGrants f _).grantPass
    · exact set

/-- A grant that changes its feeder stays a grant (R113, R114). -/
theorem regrantOn (f : Option FeederNo) : (s.regrantOn i f).chainsOk := by
  refine of_records (s := s.updRecord i fun r => { r with run := r.run.map fun d => { d with feeder := f } }) ?_ rfl
  cases hr : s.record? i with
  | none => rwa [State.updRecord, hr]
  | some r =>
    have good : r.chainAndRunOk := ok i r hr
    refine ok.of_leavesAt (State.leavesAt_updRecord hr _) (good.of_same (TrailerRecord.marking_chain _ _) ?_)
    rw [TrailerRecord.marking_run, Option.isSome_map]

theorem sourceChange : (s.sourceChange i).chainsOk := by
  unfold State.sourceChange
  split
  · exact ok
  · split
    · exact ok
    · next d _ =>
      split
      · next f _ _ =>
        have discharged : (s.discharge f d.load).chainsOk := ok
        exact discharged.regrantOn i none
      · simp only
        split
        · exact regrantOn (s := s.charge _ _) ok i _
        · exact ok.endDefrost i _
      · exact ok
      · exact ok

theorem releaseDefrost : (s.releaseDefrost i).chainsOk := by
  unfold State.releaseDefrost
  split
  · exact (ok.endDefrost i _).grantPass
  · exact ok

theorem freed (b : BayAddr) (t : Tag) : (s.freed i b t).chainsOk := by
  have emptied : ((s.invalidateTag t).setBay b { s.bayAt b with occupant := none }).chainsOk := ok.of_records rfl
  exact emptied.setRecord i fun _ h => nomatch h

theorem doRelease (t : Tag) : (s.doRelease i t).1.chainsOk := by
  cases hr : s.record? i with
  | none => rwa [State.doRelease_of_none hr]
  | some r =>
    rw [State.doRelease_of_some hr]
    have forgotten := (ok.releaseDefrost i).of_scheduling (State.forgetCommands_scheduling i _)
    have cleared : (((s.releaseDefrost i).forgetCommands i).forgetChecks t).chainsOk := forgotten
    exact cleared.freed i r.bay t

/-! ## Restarts -/

/-- A restart takes every DEFROST with its run data (R90, R117). -/
theorem warmRestart (cause : RestartCause) (strap : Bool) : (s.warmRestart cause strap).chainsOk := by
  intro i r hr
  rw [State.warmRestart_record?] at hr
  obtain ⟨old, hold, rfl⟩ := Option.map_eq_some_iff.mp hr
  have good : old.chainAndRunOk := ok i old hold
  exact good.drop_defrost rfl rfl

omit ok i in
theorem reset : State.reset.chainsOk := by
  intro i r hr
  simp [State.record?, State.reset, State.cold] at hr

end State.chainsOk

/-- The chains are kept by every operation that writes them. -/
theorem chainsOk_schedulingInvariant : SchedulingInvariant State.chainsOk where
  of_scheduling ok h := ok.of_scheduling h
  cold := State.chainsOk.reset
  restart cause strap ok := ok.warmRestart cause strap
  place _ _ _ _ _ _ ok := ok.setRecord_some _ (TrailerRecord.chainAndRunOk.of_base rfl rfl)
  release i t ok := ok.doRelease i t
  pushHold i _ setBy hk ok := ok.pushHold i hk setBy
  dropHold i _ hk ok := ok.dropHold i hk
  join excess manual n _ _ ok := ok.joinQueue _ excess manual n
  leave _ ok := ok.of_records rfl
  rewrite _ _ _ ok := ok.of_records rfl
  grantPass ok := ok.grantPass
  endDefrost i k ok := ok.endDefrost i k
  sourceChange i ok := ok.sourceChange i
  setBudget f value ok := ok.doSetBudget f value

/-- Settles O56, by what each operation makes of the holds, DEFROST and the run data of its record. -/
theorem chainsAreKept : Obligations.ChainsAreKept := fun _ _ ok run => chainsOk_schedulingInvariant.step ok run

end Sys2Proof.Machine
end

section
/-! # The books of the feeders: what the grants, the queue and the granted sums say of each other -/

namespace Sys2Proof.Machine

open Sys2Proof

/-! ## Loads of a grant list -/

/-- The load that a grant puts on a feeder. -/
def GrantItem.loadOn (g : GrantItem) (f : FeederNo) : Nat := if g.feeder = some f then g.load else 0

/-- The sum of the loads that the grants of a list put on a feeder (R91). -/
def loadsOn (l : List GrantItem) (f : FeederNo) : Nat := ((l.filter fun g => g.feeder = some f).map GrantItem.load).sum

theorem loadsOn_cons (g : GrantItem) (l : List GrantItem) (f : FeederNo) :
    loadsOn (g :: l) f = g.loadOn f + loadsOn l f := by
  unfold loadsOn GrantItem.loadOn
  by_cases h : g.feeder = some f <;> simp [h]

theorem loadsOn_perm {l l' : List GrantItem} (h : l.Perm l') (f : FeederNo) : loadsOn l f = loadsOn l' f :=
  ((h.filter _).map _).sum_eq

/-- The grants of a list less those of a record. -/
def grantsLess (i : RecIdx) (l : List GrantItem) : List GrantItem := l.filter fun g => g.record ≠ i

theorem mem_grantsLess {i : RecIdx} {l : List GrantItem} {g : GrantItem} : g ∈ grantsLess i l ↔ g ∈ l ∧ g.record ≠ i := by
  simp [grantsLess]

/-- In a list with one grant for each record, a grant stands beside those of the other records. -/
theorem grants_perm {l : List GrantItem} (once : (l.map GrantItem.record).Nodup) {g : GrantItem} (hg : g ∈ l) :
    l.Perm (g :: grantsLess g.record l) := by
  induction l with
  | nil => cases hg
  | cons x l ih =>
    obtain ⟨new, once⟩ := List.nodup_cons.mp once
    rcases List.mem_cons.mp hg with rfl | hg
    · have others : grantsLess g.record l = l := List.filter_eq_self.mpr fun y hy =>
        decide_eq_true fun same => new (same ▸ List.mem_map_of_mem hy)
      have less : grantsLess g.record (g :: l) = grantsLess g.record l := by simp [grantsLess]
      rw [less, others]
    · have apart : x.record ≠ g.record := fun same => new (same ▸ List.mem_map_of_mem hg)
      have less : grantsLess g.record (x :: l) = x :: grantsLess g.record l := by simp [grantsLess, apart]
      rw [less]
      exact ((ih once hg).cons x).trans (.swap g x _)

/-! ## The books -/

/-- What the invariants of the scheduler read: for each placed record the grant that its run data stand for, the records queued,
the grant list, and the feeders. -/
@[ext] structure Books where
  booking : RecIdx → Option (Option GrantItem)
  queued : List RecIdx
  grants : List GrantItem
  feeders : FeederNo → Feeder

/-- Books that agree: no record queued has a grant, the grant list has the grant of each record once, and each feeder's granted
sum is that of the loads on it and within its budget, but for the feeder `cut`, whose budget has just been cut (R91, R93,
R102, R111). -/
structure Books.Balanced (cut : Option FeederNo) (b : Books) : Prop where
  queued : ∀ i ∈ b.queued, b.booking i = some none
  once : (b.grants.map GrantItem.record).Nodup
  listed : ∀ g, g ∈ b.grants ↔ b.booking g.record = some (some g)
  sums : ∀ f, (b.feeders f).granted = loadsOn b.grants f
  within : ∀ f, cut ≠ some f → (b.feeders f).granted ≤ (b.feeders f).budget
  capped : ∀ f, (b.feeders f).budget ≤ Config.maxBudget

/-- A feeder with the load of a grant taken off it, where the grant is on it (R91). -/
def Books.credit (b : Books) (g : GrantItem) (f : FeederNo) : Feeder :=
  if g.feeder = some f then { b.feeders f with granted := (b.feeders f).granted - g.load } else b.feeders f

/-- A feeder with the load of a grant put on it, where the grant is on it (R91). -/
def Books.debit (b : Books) (g : GrantItem) (f : FeederNo) : Feeder :=
  if g.feeder = some f then { b.feeders f with granted := (b.feeders f).granted + g.load } else b.feeders f

theorem Books.credit_eq (b : Books) (g : GrantItem) (f : FeederNo) :
    b.credit g f = { b.feeders f with granted := (b.feeders f).granted - g.loadOn f } := by
  unfold Books.credit GrantItem.loadOn
  split <;> rfl

theorem Books.debit_eq (b : Books) (g : GrantItem) (f : FeederNo) :
    b.debit g f = { b.feeders f with granted := (b.feeders f).granted + g.loadOn f } := by
  unfold Books.debit GrantItem.loadOn
  split <;> rfl

/-- The books after a grant has ended. -/
def Books.less (b : Books) (g : GrantItem) : Books :=
  { b with booking := Function.update b.booking g.record (some none), grants := grantsLess g.record b.grants
           feeders := b.credit g }

/-- The books after a grant. -/
def Books.plus (b : Books) (g : GrantItem) : Books :=
  { b with booking := Function.update b.booking g.record (some (some g)), grants := b.grants ++ [g], feeders := b.debit g }

namespace Books.Balanced

variable {cut : Option FeederNo} {b : Books} (ok : b.Balanced cut)
include ok

/-- A record with a grant is not queued. -/
theorem not_queued {i : RecIdx} {g : GrantItem} (h : b.booking i = some (some g)) : i ∉ b.queued := fun hi => by
  have free := ok.queued i hi
  rw [h] at free
  cases free

/-- What is written of a record that is not queued leaves those that are. -/
theorem queued_update {i : RecIdx} (out : i ∉ b.queued) (x : Option (Option GrantItem)) :
    ∀ j ∈ b.queued, Function.update b.booking i x j = some none := by
  intro j hj
  have apart : j ≠ i := fun same => out (same ▸ hj)
  rw [Function.update_of_ne apart, ok.queued j hj]

/-- The order of the grant list does not matter. -/
theorem of_perm {l : List GrantItem} (h : l.Perm b.grants) : Balanced cut { b with grants := l } where
  queued := ok.queued
  once := (h.map _).nodup_iff.mpr ok.once
  listed g := h.mem_iff.trans (ok.listed g)
  sums f := (ok.sums f).trans (loadsOn_perm h.symm f)
  within := ok.within
  capped := ok.capped

/-- Records may leave the queue, and records with no grant may join it. -/
theorem of_queued {q : List RecIdx} (h : ∀ i ∈ q, i ∈ b.queued ∨ b.booking i = some none) :
    Balanced cut { b with queued := q } where
  queued i hi := (h i hi).elim (ok.queued i) id
  once := ok.once
  listed := ok.listed
  sums := ok.sums
  within := ok.within
  capped := ok.capped

/-- A record with no grant that is not queued may be placed or freed. -/
theorem of_booking {i : RecIdx} {x : Option (Option GrantItem)} (hi : i ∉ b.queued) (before : ∀ g, b.booking i ≠ some (some g))
    (after : ∀ g, x ≠ some (some g)) : Balanced cut { b with booking := Function.update b.booking i x } where
  queued := ok.queued_update hi x
  once := ok.once
  listed g := by
    by_cases same : g.record = i
    · have absent : g ∉ b.grants := fun hg => before g (same ▸ (ok.listed g).mp hg)
      simp only [same, Function.update_self, absent, after g]
    · simp only [Function.update_of_ne same, ok.listed g]
  sums := ok.sums
  within := ok.within
  capped := ok.capped

/-- The end of a grant gives its load back (R106). -/
theorem less {g : GrantItem} (hg : b.booking g.record = some (some g)) : (b.less g).Balanced cut where
  queued := ok.queued_update (ok.not_queued hg) _
  once := ok.once.sublist (List.filter_sublist.map _)
  listed x := by
    by_cases same : x.record = g.record
    · simp [Books.less, mem_grantsLess, same]
    · simp [Books.less, mem_grantsLess, same, ok.listed x]
  sums f := by
    have total := ok.sums f
    rw [loadsOn_perm (grants_perm ok.once ((ok.listed g).mpr hg)) f, loadsOn_cons] at total
    show (b.credit g f).granted = loadsOn (grantsLess g.record b.grants) f
    rw [Books.credit_eq]
    show (b.feeders f).granted - g.loadOn f = _
    omega
  within f hf := by
    show (b.credit g f).granted ≤ (b.credit g f).budget
    rw [Books.credit_eq]
    exact (Nat.sub_le _ _).trans (ok.within f hf)
  capped f := by
    show (b.credit g f).budget ≤ Config.maxBudget
    rw [Books.credit_eq]
    exact ok.capped f

/-- A grant to a record that has none and is not queued, where its load fits (R100, R102). -/
theorem plus {g : GrantItem} (free : b.booking g.record = some none) (out : g.record ∉ b.queued)
    (fits : ∀ f, g.feeder = some f → (b.feeders f).granted + g.load ≤ (b.feeders f).budget) : (b.plus g).Balanced cut where
  queued := ok.queued_update out _
  once := by
    have new : g.record ∉ b.grants.map GrantItem.record := fun hg => by
      obtain ⟨x, hx, same⟩ := List.mem_map.mp hg
      have booked := (ok.listed x).mp hx
      rw [same, free] at booked
      cases booked
    show ((b.grants ++ [g]).map GrantItem.record).Nodup
    rw [List.map_append]
    exact List.Nodup.append ok.once (List.nodup_singleton _) (List.disjoint_singleton.mpr new)
  listed x := by
    by_cases same : x.record = g.record
    · have absent : x ∉ b.grants := fun hx => by
        have booked := (ok.listed x).mp hx
        rw [same, free] at booked
        cases booked
      simp [Books.plus, same, absent, eq_comm]
    · have other : x ≠ g := fun h => same (h ▸ rfl)
      simp [Books.plus, same, other, ok.listed x]
  sums f := by
    have total := ok.sums f
    show (b.debit g f).granted = loadsOn (b.grants ++ [g]) f
    rw [Books.debit_eq, loadsOn_perm List.perm_append_comm f, List.singleton_append, loadsOn_cons]
    show (b.feeders f).granted + g.loadOn f = _
    omega
  within f hf := by
    show (b.debit g f).granted ≤ (b.debit g f).budget
    unfold Books.debit
    split
    · next on => exact fits f on
    · exact ok.within f hf
  capped f := by
    show (b.debit g f).budget ≤ Config.maxBudget
    rw [Books.debit_eq]
    exact ok.capped f

end Books.Balanced

end Sys2Proof.Machine
end

section
/-! # The books of a part, and the operations that write them -/

namespace Sys2Proof.Machine

open Sys2Proof

/-! ## What the books read -/

/-- The grant list item that the run data of a record stand for (R102, R103). -/
def RunData.item (i : RecIdx) (d : RunData) : GrantItem :=
  { number := d.grant, record := i, feeder := d.feeder, load := d.load }

/-- The grant list item of a record, if it has run data. -/
def TrailerRecord.grantItem (i : RecIdx) (r : TrailerRecord) : Option GrantItem := r.run.map (RunData.item i)

/-- The grant list item of each placed record, if it has run data. -/
def State.booking (s : State) (i : RecIdx) : Option (Option GrantItem) := (s.record? i).map (TrailerRecord.grantItem i)

/-- The books of a part. -/
def State.books (s : State) : Books :=
  { booking := s.booking, queued := s.queue.map QueueEntry.record, grants := s.grants, feeders := fun f => s.feeders[f] }

/-- A record's item is that of what it holds of a defrost. -/
theorem TrailerRecord.grantItem_eq (i : RecIdx) (r : TrailerRecord) :
    r.grantItem i = r.defrosting.2.map fun d => { number := d.1, record := i, feeder := d.2.1, load := d.2.2 } := by
  rw [TrailerRecord.grantItem, TrailerRecord.defrosting, Option.map_map]
  rfl

/-- A record with the run data that a grant makes (R102). -/
def TrailerRecord.granted (r : TrailerRecord) (grant : Nat) (feeder : Option FeederNo) (load : Nat) : TrailerRecord :=
  { r with run := some { grant := grant, feeder := feeder, load := load, heating := 0, paused := 0 } }

theorem TrailerRecord.marking_grantItem (i : RecIdx) (old new : TrailerRecord) :
    (old.marking new).grantItem i = new.grantItem i := by
  rw [TrailerRecord.grantItem, TrailerRecord.marking_run, TrailerRecord.grantItem]

theorem State.booking_of_some {s : State} {i : RecIdx} {r : TrailerRecord} (h : s.record? i = some r) :
    s.booking i = some (r.grantItem i) := by
  rw [State.booking, h, Option.map_some]

theorem State.booking_setRecord (s : State) (i : RecIdx) (x : Option TrailerRecord) :
    (s.setRecord i x).booking = Function.update s.booking i (x.map (TrailerRecord.grantItem i)) := by
  funext j
  rw [State.booking, State.record?_setRecord, Function.update_apply]
  by_cases same : i = j
  · subst same
    rw [if_pos rfl, if_pos rfl]
  · rw [if_neg same, if_neg (Ne.symm same), State.booking]

/-- A record written with another item. -/
theorem State.books_setRecord (s : State) (i : RecIdx) (x : Option TrailerRecord) :
    (s.setRecord i x).books =
      { s.books with booking := Function.update s.books.booking i (x.map (TrailerRecord.grantItem i)) } := by
  rw [State.books, State.booking_setRecord]
  rfl

/-! ## The records of a queue -/

theorem map_record_renumberFrom (n : Nat) (q : List QueueEntry) :
    (renumberFrom n q).map QueueEntry.record = q.map QueueEntry.record := by
  induction q generalizing n with
  | nil => rfl
  | cons e q ih => exact congrArg (e.record :: ·) (ih (n + 1))

theorem mem_record_insertEntry {e : QueueEntry} {q : List QueueEntry} {i : RecIdx} :
    i ∈ (insertEntry e q).map QueueEntry.record ↔ i = e.record ∨ i ∈ q.map QueueEntry.record := by
  rw [((insertEntry_perm e q).map _).mem_iff, List.map_cons, List.mem_cons]

theorem mem_record_withoutRecord {i j : RecIdx} {q : List QueueEntry} :
    j ∈ (withoutRecord i q).map QueueEntry.record ↔ j ∈ q.map QueueEntry.record ∧ j ≠ i := by
  simp only [withoutRecord, List.mem_map, List.mem_filter, decide_eq_true_eq]
  constructor
  · rintro ⟨e, ⟨he, apart⟩, rfl⟩
    exact ⟨⟨e, he, rfl⟩, apart⟩
  · rintro ⟨⟨e, he, rfl⟩, apart⟩
    exact ⟨e, ⟨he, apart⟩, rfl⟩

/-! ## Writes that leave the books -/

/-- A resumed defrost keeps its grant (R85). -/
theorem resumeRun_grant (newest : Activity) (run : Option RunData) (i : RecIdx) :
    (resumeRun newest run).map (RunData.item i) = run.map (RunData.item i) := by
  cases newest with
  | defrost => exact Option.map_map _ _ _
  | cool | doorHold | serviceHold => rfl

theorem books_of_scheduling {s t : State} (h : t.scheduling = s.scheduling) : t.books = s.books := by
  obtain ⟨defrosts, queue, grants, feeders⟩ := Scheduling.mk.inj h
  have booking : t.booking = s.booking := by
    have read : ∀ u : State, u.booking = fun i =>
        (u.scheduling.defrosts i).map fun x => x.2.map fun d =>
          ({ number := d.1, record := i, feeder := d.2.1, load := d.2.2 } : GrantItem) := fun u => by
      funext i
      rw [State.booking, State.scheduling, Option.map_map]
      exact congrArg (Option.map · (u.record? i)) (funext (TrailerRecord.grantItem_eq i))
    rw [read t, read s, h]
  rw [State.books, State.books, booking, queue, grants, feeders]

namespace State

theorem raiseFor_books (i : RecIdx) (d : Detail) (s : State) : (s.raiseFor i d).books = s.books :=
  books_of_scheduling (s.raiseFor_scheduling i d)

/-- A write of a placed record that leaves its item. -/
theorem books_setRecord_same {s : State} {i : RecIdx} {r x : TrailerRecord} (hr : s.record? i = some r)
    (same : x.grantItem i = r.grantItem i) : (s.setRecord i (some x)).books = s.books := by
  rw [books_setRecord, Option.map_some, same, ← booking_of_some hr]
  show { s.books with booking := Function.update s.booking i (s.booking i) } = s.books
  rw [Function.update_eq_self]
  rfl

theorem updRecord_books (i : RecIdx) (f : TrailerRecord → TrailerRecord) (s : State)
    (hf : ∀ r, (f r).grantItem i = r.grantItem i := by exact fun _ => rfl) : (s.updRecord i f).books = s.books := by
  cases hr : s.record? i with
  | none => rw [updRecord, hr]
  | some r =>
    rw [updRecord_of_some hr]
    exact books_setRecord_same hr ((TrailerRecord.marking_grantItem i r (f r)).trans (hf r))

theorem pushActivity_books (i : RecIdx) (k : Activity) (setBy : Option Master) (s : State) :
    (s.pushActivity i k setBy).books = s.books := by
  unfold pushActivity
  split
  · rfl
  · split
    · rfl
    · exact (books_of_scheduling (handOff_scheduling _ _ _)).trans (s.updRecord_books i _)

theorem removeActivity_books (i : RecIdx) (k : Activity) (s : State) : (s.removeActivity i k).books = s.books := by
  unfold removeActivity
  split
  · rfl
  · split
    · simp only
      split
      · exact (books_of_scheduling (handOff_scheduling _ _ _)).trans
          (s.updRecord_books i _ fun r => resumeRun_grant _ r.run i)
      · exact s.updRecord_books i _
    · rfl

/-! ## The queue -/

/-- A trailer's entry stands in the queue and names it. -/
theorem mem_of_entryOf {s : State} {i : RecIdx} {e : QueueEntry} (h : s.entryOf i = some e) : e ∈ s.queue ∧ e.record = i :=
  ⟨List.mem_of_find?_eq_some h, by simpa using List.find?_some h⟩

theorem mem_record_of_entryOf {s : State} {i : RecIdx} {e : QueueEntry} (h : s.entryOf i = some e) :
    i ∈ s.queue.map QueueEntry.record := by
  obtain ⟨he, here⟩ := mem_of_entryOf h
  exact here ▸ List.mem_map_of_mem he

theorem mem_record_joinQueue {i j : RecIdx} {excess : Nat} {manual : Bool} {n : Nat} {s : State} :
    j ∈ (s.joinQueue i excess manual n).queue.map QueueEntry.record ↔ j = i ∨ j ∈ s.queue.map QueueEntry.record := by
  have room : s.joinRoom.queue.map QueueEntry.record = s.queue.map QueueEntry.record := by
    unfold joinRoom
    split
    · exact map_record_renumberFrom 1 s.queue
    · rfl
  rw [← room]
  exact mem_record_insertEntry

theorem booking_of_records {s t : State} (h : t.records = s.records) : t.booking = s.booking := by
  funext i
  rw [booking, booking, record?, record?, h]

/-- A change of the queue alone. -/
theorem books_of_queue {s t : State} (h : (t.records, t.granting) = (s.records, s.granting)) :
    t.books = { s.books with queued := t.queue.map QueueEntry.record } := by
  obtain ⟨records, granting⟩ := Prod.mk.inj h
  obtain ⟨grants, rest⟩ := Prod.mk.inj granting
  obtain ⟨feeders, -⟩ := Prod.mk.inj rest
  simp only [books, booking_of_records records, grants, feeders]

/-! ## Grants and their ends -/

theorem booking_of_run {s : State} {i : RecIdx} {r : TrailerRecord} {d : RunData} (hr : s.record? i = some r)
    (hrun : r.run = some d) : s.booking i = some (some (d.item i)) := by
  rw [booking_of_some hr, TrailerRecord.grantItem, hrun]
  rfl

theorem givenBack_eq (s : State) (d : RunData) : ∃ v, s.givenBack d = { s with feeders := v } := by
  unfold givenBack
  split
  · exact ⟨_, rfl⟩
  · exact ⟨s.feeders, rfl⟩

/-- The undoing of a grant ends it in the books. -/
theorem ungranted_books {s : State} {i : RecIdx} (r : TrailerRecord) (d : RunData) (k : EndKind) :
    (s.ungranted i k d r).books = s.books.less (d.item i) := by
  have feeders : (fun f : FeederNo => (s.givenBack d).feeders[f]) = s.books.credit (d.item i) := funext (s.givenBack_feeder d)
  have written : (s.ungranted i k d r).books =
      { ((s.givenBack d).setRecord i (some (r.stopped k))).books with grants := grantsLess i s.grants } := rfl
  rw [written, books_setRecord, Books.less, ← feeders]
  obtain ⟨v, given⟩ := s.givenBack_eq d
  rw [given]
  rfl

/-- An end of a defrost ends its grant in the books, before its queue action. -/
theorem endDefrost_books {s : State} {i : RecIdx} {r : TrailerRecord} {d : RunData} (hr : s.record? i = some r)
    (hrun : r.run = some d) (k : EndKind) :
    ∃ w : State, s.endDefrost i k = w.queueAction i k ∧ w.books = s.books.less (d.item i) :=
  ⟨_, endDefrost_eq hr hrun k, (raiseFor_books _ _ _).trans ((updRecord_books i _ _).trans
    ((removeActivity_books _ _ _).trans (ungranted_books r d k)))⟩

/-- The part with a load put on its feeder (R91). -/
def charged (s : State) (feeder : Option FeederNo) (load : Nat) : State :=
  match feeder with
  | some f => s.charge f load
  | none => s

/-- The load goes on the feeder of the grant, and on no other. -/
theorem charged_feeder (s : State) (feeder : Option FeederNo) (load : Nat) (f : FeederNo) :
    (s.charged feeder load).feeders[f] =
      if feeder = some f then { s.feeders[f] with granted := s.feeders[f].granted + load } else s.feeders[f] := by
  cases feeder with
  | none => rfl
  | some g =>
    by_cases same : g = f
    · subst same
      simp [charged, charge, setFeeder]
    · have apart : g.val ≠ f.val := fun h => same (Fin.ext h)
      simp [charged, charge, setFeeder, same, Vector.getElem_set_ne _ _ apart]

theorem charged_eq (s : State) (feeder : Option FeederNo) (load : Nat) :
    ∃ v, s.charged feeder load = { s with feeders := v } := by
  cases feeder with
  | none => exact ⟨s.feeders, rfl⟩
  | some f => exact ⟨_, rfl⟩

/-- The item that a grant appends to the grant list (R103). -/
def nextItem (s : State) (i : RecIdx) (feeder : Option FeederNo) (load : Nat) : GrantItem :=
  { number := s.nextGrant, record := i, feeder := feeder, load := load }

/-- The part after the first steps of a grant, before Chain Control acts (R102). -/
def entered (s : State) (i : RecIdx) (feeder : Option FeederNo) (load : Nat) (r : TrailerRecord) : State :=
  { ((s.leaveQueue i).setRecord i (some (r.marking (r.granted s.nextGrant feeder load)))).charged feeder load with
    grants := s.grants ++ [s.nextItem i feeder load], nextGrant := nextGrantNumber s.nextGrant }

/-- A grant makes its entries, and then pushes DEFROST. -/
theorem grant_eq {s : State} {i : RecIdx} {r : TrailerRecord} (hr : s.record? i = some r) (feeder : Option FeederNo)
    (load : Nat) : s.grant i feeder load = (s.entered i feeder load r).pushActivity i .defrost none := by
  have left : (s.leaveQueue i).record? i = some r := hr
  unfold grant
  simp only [updRecord_of_some left]
  cases feeder <;> rfl

/-- A grant is entered in the books, once its record has left the queue. -/
theorem grant_books {s : State} {i : RecIdx} {r : TrailerRecord} (hr : s.record? i = some r) (feeder : Option FeederNo)
    (load : Nat) :
    (s.grant i feeder load).books = (s.leaveQueue i).books.plus (s.nextItem i feeder load) := by
  have feeders : (fun f : FeederNo => (s.charged feeder load).feeders[f]) = s.books.debit (s.nextItem i feeder load) :=
    funext (s.charged_feeder feeder load)
  have item : (r.marking (r.granted s.nextGrant feeder load)).grantItem i = some (s.nextItem i feeder load) :=
    TrailerRecord.marking_grantItem i _ _
  have booking : (s.entered i feeder load r).booking =
      Function.update s.booking i (some (some (s.nextItem i feeder load))) := by
    rw [← item]
    refine (booking_of_records ?_).trans (booking_setRecord s i (some _))
    cases feeder <;> rfl
  rw [grant_eq hr, pushActivity_books]
  refine Books.ext booking ?_ rfl ?_
  · cases feeder <;> rfl
  · refine Eq.trans ?_ feeders
    cases feeder <;> rfl

end State

/-- A part whose books agree, but for a feeder whose budget has just been cut (R111). -/
def State.balanced (s : State) (cut : Option FeederNo) : Prop := s.books.Balanced cut

namespace State.balanced

variable {s t : State} {cut : Option FeederNo} (ok : s.balanced cut)
include ok

theorem of_books (h : t.books = s.books) : t.balanced cut := by
  rwa [State.balanced, h]

theorem of_scheduling (h : t.scheduling = s.scheduling) : t.balanced cut := ok.of_books (books_of_scheduling h)

/-- Entries may leave the queue, and those of records with no grant may join it. -/
theorem of_queue (h : (t.records, t.granting) = (s.records, s.granting))
    (queue : ∀ i ∈ t.queue.map QueueEntry.record, i ∈ s.queue.map QueueEntry.record ∨ s.booking i = some none) :
    t.balanced cut := by
  rw [State.balanced, State.books_of_queue h]
  exact Books.Balanced.of_queued ok queue

theorem joinQueue {i : RecIdx} (free : s.booking i = some none) (excess : Nat) (manual : Bool) (n : Nat) :
    (s.joinQueue i excess manual n).balanced cut := by
  refine ok.of_queue (s.joinQueue_keeps i excess manual n) fun j hj => ?_
  rcases State.mem_record_joinQueue.mp hj with rfl | hj
  · exact .inr free
  · exact .inl hj

theorem leaveQueue (i : RecIdx) : (s.leaveQueue i).balanced cut :=
  ok.of_queue rfl fun _ hj => .inl (mem_record_withoutRecord.mp hj).1

theorem rewriteEntry {i : RecIdx} {e : QueueEntry} (he : s.entryOf i = some e) {e' : QueueEntry} (same : e'.record = e.record) :
    (s.rewriteEntry e').balanced cut := by
  refine ok.of_queue rfl fun j hj => .inl ?_
  rcases mem_record_insertEntry.mp hj with rfl | hj
  · exact same ▸ List.mem_map_of_mem (List.mem_of_find?_eq_some he)
  · exact (mem_record_withoutRecord.mp hj).1

/-- A queued trailer has no grant. -/
theorem booking_of_entry {i : RecIdx} {e : QueueEntry} (he : s.entryOf i = some e) : s.booking i = some none :=
  Books.Balanced.queued ok i (State.mem_record_of_entryOf he)

theorem evaluateDemand {i : RecIdx} (free : s.booking i = some none) : (s.evaluateDemand i).balanced cut := by
  unfold State.evaluateDemand
  split
  · exact ok
  · split
    · exact (ok.joinQueue free _ _ _).of_books (State.raiseFor_books _ _ _)
    · exact ok

theorem queueAction {i : RecIdx} (free : s.booking i = some none) (k : EndKind) : (s.queueAction i k).balanced cut := by
  cases k with
  | timedOut => exact ok.evaluateDemand free
  | revoked cause wait =>
    show (s.reenqueue i).balanced cut
    unfold State.reenqueue
    split
    · exact ok
    · split
      · exact ok.joinQueue free _ _ _
      · exact ok
  | terminated | abandoned | cancelled | released => exact ok

/-! ## Grants and their ends -/

theorem endDefrost (i : RecIdx) (k : EndKind) : (s.endDefrost i k).balanced cut := by
  cases hd : (s.record? i).bind TrailerRecord.run with
  | none => rwa [State.endDefrost, hd]
  | some d =>
    obtain ⟨r, hr, hrun⟩ := Option.bind_eq_some_iff.mp hd
    obtain ⟨w, ended, books⟩ := State.endDefrost_books hr hrun k
    have less : w.balanced cut := by
      rw [State.balanced, books]
      exact Books.Balanced.less ok (State.booking_of_run hr hrun)
    have free : w.booking i = some none := by
      have booking : w.booking = (s.books.less (d.item i)).booking := congrArg Books.booking books
      rw [booking]
      exact Function.update_self _ _ _
    rw [ended]
    exact less.queueAction free k

/-- A grant to a queued trailer whose load fits (R100, R102). -/
theorem grant {i : RecIdx} {r : TrailerRecord} {e : QueueEntry} (hr : s.record? i = some r) (he : s.entryOf i = some e)
    {feeder : Option FeederNo} {load : Nat} (fits : ∀ f, feeder = some f → s.fits f load = true) :
    (s.grant i feeder load).balanced cut := by
  have left : (s.leaveQueue i).books.Balanced cut := ok.leaveQueue i
  rw [State.balanced, State.grant_books hr]
  refine left.plus (ok.booking_of_entry he) (fun hi => ?_) fun f on => of_decide_eq_true (fits f on)
  exact (mem_record_withoutRecord.mp hi).2 rfl

end State.balanced

/-! ## The grant pass -/

theorem countMarked_records (l : List (FeederNo × RecIdx)) (f : FeederNo) (q : List QueueEntry) :
    (countMarked l f q).map QueueEntry.record = q.map QueueEntry.record := by
  rw [countMarked, List.map_map]
  refine List.map_congr_left fun e _ => ?_
  simp only [Function.comp]
  split <;> rfl

/-- The counting of the entries passed over leaves the books. -/
theorem Pass.counted_books (p : Pass) (f : FeederNo) : (p.counted f).state.books = p.state.books :=
  Books.ext rfl (countMarked_records _ _ _) rfl rfl

/-- What becomes of the part as a pass considers a record: nothing that the books read, or a grant of a queued trailer, on a
feeder where it fits (R100). -/
theorem Pass.consider_books (p : Pass) (i : RecIdx) :
    (p.consider i).state.books = p.state.books ∨
      ∃ r e feeder load, p.state.record? i = some r ∧ p.state.entryOf i = some e ∧
        (∀ f, feeder = some f → p.state.fits f load = true) ∧
        (p.consider i).state.books = (p.state.grant i feeder load).books := by
  unfold Pass.consider
  split
  · next e r he hr =>
    split
    · simp only
      split
      · exact .inr ⟨r, e, none, _, hr, he, nofun, rfl⟩
      · next f _ =>
        split
        · next room =>
          split
          · exact .inl rfl
          · refine .inr ⟨r, e, some f, _, hr, he, ?_, Pass.counted_books _ f⟩
            rintro _ ⟨⟩
            exact room
        · split
          · split <;> exact .inl rfl
          · exact .inl rfl
    · exact .inl rfl
  · exact .inl rfl

/-- A record is out of the scheduler's hands: it is not queued, and has no grant. -/
def State.released (s : State) (i : RecIdx) : Prop :=
  i ∉ s.queue.map QueueEntry.record ∧ ∀ g, s.booking i ≠ some (some g)

theorem State.released_of_books {s t : State} {i : RecIdx} (h : t.books = s.books) (out : s.released i) : t.released i := by
  have queued : t.queue.map QueueEntry.record = s.queue.map QueueEntry.record := congrArg Books.queued h
  have booking : t.booking = s.booking := congrArg Books.booking h
  rwa [State.released, queued, booking]

/-- A pass grants to no record but one that is queued. -/
theorem Pass.consider_released {p : Pass} {i : RecIdx} (out : p.state.released i) (j : RecIdx) :
    (p.consider j).state.released i := by
  rcases p.consider_books j with h | ⟨r, e, feeder, load, hr, he, -, h⟩
  · exact State.released_of_books h out
  · have apart : i ≠ j := fun same => out.1 (same ▸ State.mem_record_of_entryOf he)
    refine State.released_of_books h ?_
    have books := State.grant_books hr feeder load
    have queued : (p.state.grant j feeder load).queue.map QueueEntry.record = _ := congrArg Books.queued books
    have booking : (p.state.grant j feeder load).booking i = _ := congrFun (congrArg Books.booking books) i
    refine ⟨fun hi => ?_, fun g hg => ?_⟩
    · rw [queued] at hi
      exact out.1 (mem_record_withoutRecord.mp hi).1
    · rw [booking] at hg
      exact out.2 g ((Function.update_of_ne apart _ _).symm.trans hg)

/-- What every step of a pass keeps of the part, and no FEEDER_SHORT ends, a pass keeps. -/
theorem State.grantPass_induction {P : State → Prop} (consider : ∀ (p : Pass) i, P p.state → P (p.consider i).state)
    (notices : ∀ s t : State, t.outsideNotices = s.outsideNotices → P s → P t) {s : State} (h : P s) : P s.grantPass := by
  have walked : P s.walkQueue.state :=
    List.foldlRecOn (motive := fun p : Pass => P p.state) _ Pass.consider h fun p hp i _ => consider p i hp
  exact List.foldlRecOn (motive := P) _ State.raiseShort walked fun t ht x _ => notices t _ (t.raiseShort_frame x) ht

theorem State.released.grantPass {s : State} {i : RecIdx} (out : s.released i) : s.grantPass.released i :=
  State.grantPass_induction (P := fun s => s.released i) (fun _ j hp => Pass.consider_released hp j)
    (fun _ _ frame => State.released_of_books (books_of_scheduling (scheduling_of_outsideNotices frame))) out

theorem State.balanced.grantPass {s : State} {cut : Option FeederNo} (ok : s.balanced cut) : s.grantPass.balanced cut := by
  refine State.grantPass_induction (P := fun s => s.balanced cut) (fun p i hp => ?_)
    (fun _ _ frame hs => hs.of_scheduling (scheduling_of_outsideNotices frame)) ok
  rcases p.consider_books i with h | ⟨r, e, feeder, load, hr, he, fits, h⟩
  · exact hp.of_books h
  · exact (hp.grant hr he fits).of_books h

/-! ## The change of power source -/

/-- A grant list with the grant of one record on another feeder. -/
theorem regranted_perm {l : List GrantItem} (once : (l.map GrantItem.record).Nodup) {g : GrantItem} (hg : g ∈ l)
    (f : Option FeederNo) :
    (l.map fun x => if x.record = g.record then { x with feeder := f } else x).Perm
      (grantsLess g.record l ++ [{ g with feeder := f }]) := by
  have others : (grantsLess g.record l).map (fun x => if x.record = g.record then { x with feeder := f } else x) =
      grantsLess g.record l :=
    (List.map_congr_left fun x hx => if_neg (mem_grantsLess.mp hx).2).trans (List.map_id _)
  refine ((grants_perm once hg).map _).trans ?_
  rw [List.map_cons, others, if_pos rfl]
  exact (List.perm_append_singleton _ _).symm

/-- A grant given back and charged anew, as the books find it (R113, R114). -/
theorem State.regrantOn_books {s : State} {i : RecIdx} {r : TrailerRecord} {d : RunData} {f : Option FeederNo}
    (hr : s.record? i = some r) (hrun : r.run = some d) (moves : d.feeder ≠ f) :
    (((s.givenBack d).charged f d.load).regrantOn i f).books =
      { (s.books.less (d.item i)).plus { d.item i with feeder := f } with
        grants := s.grants.map fun g => if g.record = i then { g with feeder := f } else g } := by
  have feeders := (funext ((s.givenBack d).charged_feeder f d.load)).trans
    (congrArg (fun b : FeederNo → Feeder => fun h => if f = some h then { b h with granted := (b h).granted + d.load } else b h)
      (funext (s.givenBack_feeder d)))
  obtain ⟨v, given⟩ := s.givenBack_eq d
  rw [given] at feeders ⊢
  obtain ⟨w, put⟩ := State.charged_eq { s with feeders := v } f d.load
  rw [put] at feeders ⊢
  rw [State.regrantOn_of_some (s := { s with feeders := w }) hr hrun moves]
  refine Books.ext ?_ rfl rfl feeders
  exact (State.booking_setRecord s i (some _)).trans (Function.update_idem _ _ _).symm

/-- A grant may move to another feeder where its load fits. -/
theorem State.balanced.regrantOn {s : State} {cut : Option FeederNo} (ok : s.balanced cut) {i : RecIdx} {r : TrailerRecord}
    {d : RunData} {f : Option FeederNo} (hr : s.record? i = some r) (hrun : r.run = some d) (moves : d.feeder ≠ f)
    (fits : ∀ h, f = some h → (s.givenBack d).feeders[h].granted + d.load ≤ (s.givenBack d).feeders[h].budget) :
    (((s.givenBack d).charged f d.load).regrantOn i f).balanced cut := by
  have booked : s.books.booking (d.item i).record = some (some (d.item i)) := State.booking_of_run hr hrun
  have less : (s.books.less (d.item i)).Balanced cut := Books.Balanced.less ok booked
  have plus := less.plus (g := { d.item i with feeder := f }) (Function.update_self _ _ _)
    (Books.Balanced.not_queued ok booked) fun h on => by
      have room := fits h on
      rwa [s.givenBack_feeder d h] at room
  rw [State.balanced, State.regrantOn_books hr hrun moves]
  exact plus.of_perm (regranted_perm (Books.Balanced.once ok) ((Books.Balanced.listed ok _).mpr booked) f)

theorem State.balanced.sourceChange {s : State} (ok : s.balanced none) (i : RecIdx) : (s.sourceChange i).balanced none := by
  cases hr : s.record? i with
  | none =>
    rwa [State.sourceChange, hr]
  | some r =>
    cases hrun : r.run with
    | none => rwa [State.sourceChange_of_noGrant hr hrun]
    | some d =>
      cases hsource : r.source <;> cases hfeeder : d.feeder
      case diesel.none | shore.some => rwa [State.sourceChange_of_same hr hrun (by simp [hsource, hfeeder])]
      case diesel.some f =>
        have given : (s.givenBack d).charged none d.load = s.discharge f d.load := by
          rw [State.givenBack, hfeeder]
          rfl
        rw [State.sourceChange_toDiesel hr hrun hsource hfeeder, ← given]
        exact ok.regrantOn hr hrun (by simp [hfeeder]) nofun
      case shore.none =>
        have given : s.givenBack d = s := by rw [State.givenBack, hfeeder]
        rw [State.sourceChange_toShore hr hrun hsource hfeeder]
        split
        · next room =>
          have moved := ok.regrantOn (f := some (s.zoneOf r).feeder) hr hrun (by simp [hfeeder]) fun h on => by
            cases on
            rw [given]
            exact State.fits_iff.mp room
          rwa [given] at moved
        · exact ok.endDefrost i _

/-! ## Budgets -/

/-- A budget that covers the granted sum. -/
theorem State.balanced.of_covered {s : State} {f : FeederNo} (ok : s.balanced (some f))
    (covered : s.feeders[f].granted ≤ s.feeders[f].budget) : s.balanced none where
  queued := ok.queued
  once := ok.once
  listed := ok.listed
  sums := ok.sums
  within h _ := by
    by_cases same : f = h
    · exact same ▸ covered
    · exact ok.within h fun cut => same (Option.some.inj cut)
  capped := ok.capped

/-- A feeder whose budget is written (R92). -/
theorem State.balanced.setBudget {s : State} (ok : s.balanced none) (f : FeederNo) {b : Nat} (hb : b ≤ Config.maxBudget) :
    (s.setFeeder f { s.feeders[f] with budget := b }).balanced (some f) := by
  have feeders : ∀ h : FeederNo, (s.setFeeder f { s.feeders[f] with budget := b }).feeders[h] =
      if f = h then { s.feeders[f] with budget := b } else s.feeders[h] := fun h => by
    simp only [State.setFeeder, Fin.getElem_fin, Vector.getElem_set, Fin.ext_iff]
  refine ⟨ok.queued, ok.once, ok.listed, fun h => ?_, fun h apart => ?_, fun h => ?_⟩
  · refine (congrArg Feeder.granted (feeders h)).trans (Eq.trans ?_ (ok.sums h))
    split
    · next same => exact same ▸ rfl
    · rfl
  · have other : ¬ f = h := fun same => apart (congrArg some same)
    show (State.feeders _)[h].granted ≤ (State.feeders _)[h].budget
    rw [feeders h, if_neg other]
    exact ok.within h nofun
  · show (State.feeders _)[h].budget ≤ _
    rw [feeders h]
    split
    · exact hb
    · exact ok.capped h

/-- The latest item of a feeder is one of the grants on it. -/
theorem State.mem_of_newestOn {s : State} {f : FeederNo} {g : GrantItem} (h : s.newestOn f = some g) : g ∈ s.grants :=
  List.mem_reverse.mp (List.mem_of_find?_eq_some h)

/-- A feeder with no grant on it has nothing granted. -/
theorem State.balanced.granted_of_no_newest {s : State} {cut : Option FeederNo} (ok : s.balanced cut) {f : FeederNo}
    (h : s.newestOn f = none) : s.feeders[f].granted = 0 := by
  have none : s.grants.filter (fun g => g.feeder = some f) = [] :=
    List.filter_eq_nil_iff.mpr fun g hg => List.find?_eq_none.mp h g (List.mem_reverse.mpr hg)
  refine (ok.sums f).trans ?_
  show ((s.grants.filter fun g => g.feeder = some f).map GrantItem.load).sum = 0
  rw [none]
  rfl

/-- The end of a grant that is listed takes one item from the list. -/
theorem State.balanced.length_endDefrost {s : State} {cut : Option FeederNo} (ok : s.balanced cut) {g : GrantItem}
    (hg : g ∈ s.grants) (k : EndKind) : (s.endDefrost g.record k).grants.length + 1 = s.grants.length := by
  obtain ⟨r, hr, hitem⟩ := Option.map_eq_some_iff.mp ((ok.listed g).mp hg)
  obtain ⟨d, hrun, -⟩ := Option.map_eq_some_iff.mp hitem
  obtain ⟨_, -, grants, -⟩ := State.endDefrost_undoes (k := k) hr hrun
  rw [grants]
  exact (grants_perm ok.once hg).length_eq.symm

/-- The revocations of a budget cut, as many as there are grants, bring the granted sum within the budget (R111). -/
theorem State.balanced.cutGrants {f : FeederNo} {n : Nat} {s : State} (ok : s.balanced (some f)) (hn : s.grants.length ≤ n) :
    (State.cutGrants f n s).balanced none := by
  induction n generalizing s with
  | zero =>
    have empty : s.grants = [] := List.eq_nil_of_length_eq_zero (Nat.le_zero.mp hn)
    refine ok.of_covered ?_
    rw [ok.granted_of_no_newest (by rw [State.newestOn, empty]; rfl)]
    exact Nat.zero_le _
  | succ n ih =>
    unfold State.cutGrants
    split
    · next covered => exact ok.of_covered covered
    · split
      · next none =>
        refine ok.of_covered ?_
        rw [ok.granted_of_no_newest none]
        exact Nat.zero_le _
      · next g newest =>
        have fewer := ok.length_endDefrost (State.mem_of_newestOn newest) (.revoked .budget none)
        exact ih (ok.endDefrost _ _) (by omega)

theorem State.balanced.doSetBudget {s : State} (ok : s.balanced none) (f : FeederNo) (value : Nat) :
    (s.doSetBudget f value).1.balanced none := by
  have set := ok.setBudget f (Nat.min_le_right value Config.maxBudget)
  have old : s.feeders[f].granted ≤ s.feeders[f].budget := ok.within f nofun
  have written : (s.setFeeder f { s.feeders[f] with budget := min value Config.maxBudget }).feeders[f] =
      { s.feeders[f] with budget := min value Config.maxBudget } := by simp [State.setFeeder]
  have covered := fun h : s.feeders[f].granted ≤ min value Config.maxBudget => set.of_covered (by rwa [written])
  unfold State.doSetBudget
  simp only
  split
  · next raised => exact (covered (old.trans raised.le)).grantPass
  · split
    · exact (set.cutGrants le_rfl).grantPass
    · next same => exact covered (by omega)

/-! ## Placing, release and restarts -/

theorem State.balanced.place {s : State} {cut : Option FeederNo} (ok : s.balanced cut) {i : RecIdx} {r : TrailerRecord}
    (free : s.record? i = none) (run : r.run = none) : (s.setRecord i (some r)).balanced cut := by
  have booking : s.booking i = none := by rw [State.booking, free, Option.map_none]
  have out : i ∉ s.books.queued := fun hi => by
    have queued := ok.queued i hi
    cases booking.symm.trans queued
  rw [State.balanced, State.books_setRecord]
  refine Books.Balanced.of_booking ok out (fun g hg => ?_) fun g hg => ?_
  · cases booking.symm.trans hg
  · rw [Option.map_some, TrailerRecord.grantItem, run] at hg
    cases hg

theorem State.balanced.setRecord_none {s : State} {cut : Option FeederNo} (ok : s.balanced cut) {i : RecIdx}
    (out : s.released i) : (s.setRecord i none).balanced cut := by
  rw [State.balanced, State.books_setRecord]
  exact Books.Balanced.of_booking ok out.1 out.2 nofun

theorem State.balanced.freed {s : State} {cut : Option FeederNo} (ok : s.balanced cut) {i : RecIdx} (out : s.released i)
    (b : BayAddr) (t : Tag) : (s.freed i b t).balanced cut := by
  have emptied : ((s.invalidateTag t).setBay b { s.bayAt b with occupant := none }).books = s.books := rfl
  exact (ok.of_books emptied).setRecord_none (State.released_of_books emptied out)

/-- The scheduler's part of a release leaves its record with no entry and no grant (R17). -/
theorem State.balanced.releaseDefrost {s : State} {cut : Option FeederNo} (ok : s.balanced cut) (i : RecIdx) :
    (s.releaseDefrost i).balanced cut ∧ (s.releaseDefrost i).released i := by
  unfold State.releaseDefrost
  split
  · next d hd =>
    obtain ⟨r, hr, hrun⟩ := Option.bind_eq_some_iff.mp hd
    obtain ⟨w, ended, books⟩ := State.endDefrost_books hr hrun .released
    have same : s.endDefrost i .released = w := ended
    have out : (s.endDefrost i .released).released i := by
      rw [same]
      have queued : w.queue.map QueueEntry.record = s.books.queued := congrArg Books.queued books
      have booking : w.booking i = some none :=
        (congrFun (congrArg Books.booking books) i).trans (Function.update_self _ _ _)
      refine ⟨?_, fun g hg => ?_⟩
      · rw [queued]
        exact Books.Balanced.not_queued ok (State.booking_of_run hr hrun)
      · cases booking.symm.trans hg
    exact ⟨(ok.endDefrost i _).grantPass, out.grantPass⟩
  · next idle =>
    refine ⟨ok.leaveQueue i, fun hi => (mem_record_withoutRecord.mp hi).2 rfl, fun g hg => ?_⟩
    obtain ⟨r, hr, hitem⟩ := Option.map_eq_some_iff.mp hg
    obtain ⟨d, hrun, -⟩ := Option.map_eq_some_iff.mp hitem
    have run := Option.bind_eq_some_iff.mpr ⟨r, hr, hrun⟩
    cases idle.symm.trans run

theorem State.balanced.doRelease {s : State} {cut : Option FeederNo} (ok : s.balanced cut) (i : RecIdx) (t : Tag) :
    (s.doRelease i t).1.balanced cut := by
  cases hr : s.record? i with
  | none => rwa [State.doRelease_of_none hr]
  | some r =>
    rw [State.doRelease_of_some hr]
    obtain ⟨released, out⟩ := ok.releaseDefrost i
    have forgotten := books_of_scheduling (State.forgetCommands_scheduling i (s.releaseDefrost i))
    have cleared : (((s.releaseDefrost i).forgetCommands i).forgetChecks t).books = (s.releaseDefrost i).books := forgotten
    exact (released.of_books cleared).freed (State.released_of_books cleared out) r.bay t

/-- A part that has granted nothing, with placed records queued. -/
theorem State.balanced_of_nothing_granted {s : State} (queue : ∀ e ∈ s.queue, ∃ r, s.record? e.record = some r)
    (run : ∀ i r, s.record? i = some r → r.run = none) (grants : s.grants = [])
    (feeders : s.feeders = Vector.replicate 4 Feeder.cold) : s.balanced none where
  queued i hi := by
    obtain ⟨e, he, rfl⟩ := List.mem_map.mp hi
    obtain ⟨r, hr⟩ := queue e he
    show s.booking e.record = some none
    rw [State.booking_of_some hr, TrailerRecord.grantItem, run _ r hr, Option.map_none]
  once := by simp [State.books, grants]
  listed g := by
    refine ⟨fun hg => ?_, fun hg => ?_⟩
    · rw [State.books, grants] at hg
      cases hg
    · obtain ⟨r, hr, hitem⟩ := Option.map_eq_some_iff.mp hg
      rw [TrailerRecord.grantItem, run _ r hr] at hitem
      cases hitem
  sums f := by simp [State.books, grants, feeders, Feeder.cold, loadsOn]
  within f _ := by simp [State.books, feeders, Feeder.cold]
  capped f := by simp [State.books, feeders, Feeder.cold]

/-- A restart grants nothing, and queues placed records (R117, R179). -/
theorem State.balanced_warmRestart (s : State) (cause : RestartCause) (strap : Bool) :
    (s.warmRestart cause strap).balanced none := by
  refine State.balanced_of_nothing_granted (fun e he => ?_) (fun i r hr => ?_) rfl rfl
  · rw [State.warmRestart_queue] at he
    obtain ⟨r, hr, -⟩ := State.record_of_mem_rebuiltQueue he
    exact ⟨r, (State.warmRestart_record?_eq s cause strap e.record).trans hr⟩
  · rw [State.warmRestart_record?] at hr
    obtain ⟨x, -, rfl⟩ := Option.map_eq_some_iff.mp hr
    rfl

theorem State.balanced_reset : State.reset.balanced none := by
  refine State.balanced_of_nothing_granted nofun (fun i r hr => ?_) rfl rfl
  simp [State.record?, State.reset, State.cold] at hr

/-! ## Every step -/

/-- A placed record has no grant exactly where its chain holds no DEFROST (R102). -/
theorem State.chainsOk.booking_none_iff {s : State} (ok : s.chainsOk) {i : RecIdx} :
    s.booking i = some none ↔ ∃ r, s.record? i = some r ∧ ¬ r.holds .defrost := by
  rw [State.booking, Option.map_eq_some_iff]
  refine exists_congr fun r => and_congr_right fun hr => ?_
  obtain ⟨-, run⟩ := ok i r hr
  rw [TrailerRecord.grantItem, Option.map_eq_none_iff, ← run, Option.not_isSome_iff_eq_none]

/-- A grant list item is the run data of its record where it is that record's booking. -/
theorem State.booking_item_iff {s : State} {g : GrantItem} :
    s.booking g.record = some (some g) ↔ ∃ r d, s.record? g.record = some r ∧ r.run = some d ∧ d.grant = g.number ∧
      d.feeder = g.feeder ∧ d.load = g.load := by
  obtain ⟨number, record, feeder, load⟩ := g
  simp only [State.booking, TrailerRecord.grantItem, Option.map_eq_some_iff, RunData.item, GrantItem.mk.injEq, true_and,
    exists_and_left]

/-- With the chains and run data as they should be, the queue and the feeders are so exactly where the books agree. -/
theorem State.balanced_iff {s : State} (chains : s.chainsOk) : s.balanced none ↔ s.queueOk ∧ s.feedersOk := by
  constructor
  · rintro ⟨queued, once, listed, sums, within, capped⟩
    refine ⟨fun e he => chains.booking_none_iff.mp (queued _ (List.mem_map_of_mem he)), once,
      fun g hg => State.booking_item_iff.mp ((listed g).mp hg), fun i r hr run => ?_,
      fun f => ⟨sums f, within f nofun, capped f⟩⟩
    obtain ⟨d, hrun⟩ := Option.isSome_iff_exists.mp run
    exact ⟨d.item i, (listed _).mpr (State.booking_of_run hr hrun), rfl⟩
  · rintro ⟨queue, once, items, records, feeders⟩
    refine ⟨fun i hi => ?_, once, fun g => ⟨fun hg => State.booking_item_iff.mpr (items g hg), fun hg => ?_⟩,
      fun f => (feeders f).1, fun f _ => (feeders f).2.1, fun f => (feeders f).2.2⟩
    · obtain ⟨e, he, rfl⟩ := List.mem_map.mp hi
      exact chains.booking_none_iff.mpr (queue e he)
    · obtain ⟨r, d, hr, hrun, -⟩ := State.booking_item_iff.mp hg
      obtain ⟨x, hx, same⟩ := records g.record r hr (by rw [hrun]; rfl)
      have booked := State.booking_item_iff.mpr (items x hx)
      rw [same] at booked
      cases hg.symm.trans booked
      exact hx

/-- The chains and the books are kept by every operation that writes them. -/
theorem balanced_schedulingInvariant : SchedulingInvariant fun s => s.chainsOk ∧ s.balanced none where
  of_scheduling := fun ⟨chains, ok⟩ h => ⟨chains.of_scheduling h, ok.of_scheduling h⟩
  cold := ⟨State.chainsOk.reset, State.balanced_reset⟩
  restart cause strap := fun ⟨chains, _⟩ => ⟨chains.warmRestart cause strap, State.balanced_warmRestart _ cause strap⟩
  place t b source load threshold free := fun ⟨chains, ok⟩ =>
    ⟨chainsOk_schedulingInvariant.place t b source load threshold free chains, ok.place free rfl⟩
  release i t := fun ⟨chains, ok⟩ => ⟨chains.doRelease i t, ok.doRelease i t⟩
  pushHold i _ setBy hk := fun ⟨chains, ok⟩ => ⟨chains.pushHold i hk setBy, ok.of_books (State.pushActivity_books _ _ _ _)⟩
  dropHold i _ hk := fun ⟨chains, ok⟩ => ⟨chains.dropHold i hk, ok.of_books (State.removeActivity_books _ _ _)⟩
  join excess manual n hr noDefrost := fun ⟨chains, ok⟩ =>
    ⟨chains.joinQueue _ excess manual n, ok.joinQueue (chains.booking_none_iff.mpr ⟨_, hr, noDefrost⟩) _ _ _⟩
  leave i := fun ⟨chains, ok⟩ => ⟨chains.of_records rfl, ok.leaveQueue i⟩
  rewrite _ _ he := fun ⟨chains, ok⟩ => ⟨chains.of_records rfl, ok.rewriteEntry he rfl⟩
  grantPass := fun ⟨chains, ok⟩ => ⟨chains.grantPass, ok.grantPass⟩
  endDefrost i k := fun ⟨chains, ok⟩ => ⟨chains.endDefrost i k, ok.endDefrost i k⟩
  sourceChange i := fun ⟨chains, ok⟩ => ⟨chains.sourceChange i, ok.sourceChange i⟩
  setBudget f value := fun ⟨chains, ok⟩ => ⟨chains.doSetBudget f value, ok.doSetBudget f value⟩

/-- Settles O58, by what each operation enters in the books of the feeders. -/
theorem budgetsAreKept : Obligations.BudgetsAreKept := by
  intro s t chains queue feeders run
  obtain ⟨chains, ok⟩ :=
    balanced_schedulingInvariant.step ⟨chains, (State.balanced_iff chains).mpr ⟨queue, feeders⟩⟩ run
  exact (State.balanced_iff chains).mp ok

end Sys2Proof.Machine
end

section
/-! # The echo, demand and the places of the Defrost Queue -/

namespace Sys2Proof.Machine

open Sys2Proof

/-! ## The echo -/

theorem State.queueCommand_of_some {s : State} {i : RecIdx} {r : TrailerRecord} (hr : s.record? i = some r) {c : Command}
    (other : r.slot ≠ .queued c) :
    s.queueCommand i c =
      { s.setRecord i (some { r with slot := .queued c, changed := true }) with downlink := s.downlink ++ [i] } := by
  simp only [State.queueCommand, State.updRecord_of_some hr, TrailerRecord.marking_slot other.symm]
  rfl

theorem State.requeueOnEcho_commission {s : State} (hmode : s.mode = .commission) (i : RecIdx) (echo : ModeEcho) :
    s.requeueOnEcho i echo = s := by
  simp only [State.requeueOnEcho, hmode]

theorem State.requeueOnEcho_yard {s : State} {i : RecIdx} {r : TrailerRecord} (hr : s.record? i = some r)
    (hmode : s.mode = .yard) (echo : ModeEcho) :
    s.requeueOnEcho i echo =
      if r.slot = .empty ∧ echo ≠ r.effective.expected then s.queueCommand i r.effective.wanted else s := by
  simp only [State.requeueOnEcho, hmode, hr]

/-- The rows of Table 5-2. -/
theorem Activity.row_of_mem {a : Activity} {c : Command} {e : ModeEcho}
    (h : (a, c, e) ∈ [(Activity.cool, Command.coolResume, ModeEcho.cool), (.defrost, .heatOn, .heat),
      (.doorHold, .fansOff, .fansOff), (.serviceHold, .standby, .standby)]) : c = a.wanted ∧ e = a.expected := by
  simp only [List.mem_cons, Prod.mk.injEq, List.not_mem_nil, or_false] at h
  rcases h with ⟨rfl, rfl, rfl⟩ | ⟨rfl, rfl, rfl⟩ | ⟨rfl, rfl, rfl⟩ | ⟨rfl, rfl, rfl⟩ <;> exact ⟨rfl, rfl⟩

/-! ## Entries -/

theorem State.entryOf_none_iff {s : State} {i : RecIdx} : s.entryOf i = none ↔ ∀ e ∈ s.queue, e.record ≠ i := by
  simp [State.entryOf]

theorem State.entryOf_isNone_iff {s : State} {i : RecIdx} : (s.entryOf i).isNone ↔ ∀ e ∈ s.queue, e.record ≠ i := by
  rw [Option.isNone_iff_eq_none, State.entryOf_none_iff]

/-- A counter at its top or below is used as it stands (R93). -/
theorem State.joinQueue_of_le {s : State} (h : s.nextJoin ≤ Config.counterTop) (i : RecIdx) (excess : Nat) (manual : Bool)
    (n : Nat) :
    s.joinQueue i excess manual n =
      { s with queue := insertEntry ⟨i, excess, manual, s.nextJoin, n⟩ s.queue, nextJoin := s.nextJoin + 1 } := by
  have room : s.joinRoom = s := if_neg (not_lt.mpr h)
  rw [State.joinQueue, room]

/-- A counter past its top has the standing entries numbered anew (R93). -/
theorem State.joinQueue_of_gt {s : State} (h : Config.counterTop < s.nextJoin) (i : RecIdx) (excess : Nat) (manual : Bool)
    (n : Nat) :
    s.joinQueue i excess manual n =
      { s with queue := insertEntry ⟨i, excess, manual, s.queue.length + 1, n⟩ (renumberFrom 1 s.queue)
               nextJoin := s.queue.length + 2 } := by
  have room : s.joinRoom = { s with queue := renumberFrom 1 s.queue, nextJoin := s.queue.length + 1 } := if_pos h
  rw [State.joinQueue, room]

theorem State.leaveQueue_eq (i : RecIdx) (s : State) :
    s.leaveQueue i = { s with
      queue := s.queue.filter fun x => x.record ≠ i
      nextJoin := if (s.queue.filter fun x => x.record ≠ i) = [] then 1 else s.nextJoin } := by
  simp only [State.leaveQueue, withoutRecord, List.isEmpty_iff]

/-! ## Demand -/

section
variable {s : State} {i : RecIdx} {r : TrailerRecord} (hr : s.record? i = some r)
include hr

theorem State.recomputeExcess_of_absent (absent : s.entryOf i = none) : s.recomputeExcess i = s := by
  simp only [State.recomputeExcess, hr, absent]

/-- The excess of an automatic entry is written anew, or the entry leaves (R94). -/
theorem State.recomputeExcess_of_entry {e : QueueEntry} (he : s.entryOf i = some e) :
    s.recomputeExcess i =
      if e.manual then s
      else if r.threshold ≤ r.level then s.rewriteEntry { e with excess := r.level - r.threshold } else s.leaveQueue i := by
  simp only [State.recomputeExcess, hr, he]

/-- A trailer that demands a defrost joins with FROST_DEMAND, and any other is left (R95). -/
theorem State.evaluateDemand_of_some :
    s.evaluateDemand i =
      if r.threshold ≤ r.level ∧ ¬ r.holds .defrost ∧ (s.entryOf i).isNone ∧ ¬ r.cancelLatch then
        (s.joinQueue i (r.level - r.threshold) false 0).raise
          ⟨.trailer r.tag r.bay i, .frostDemand (r.level - r.threshold) r.level r.threshold⟩
      else s := by
  have joined := (State.joinQueue_leavesAt (s := s) ⟨hr, fun _ _ => rfl⟩ (r.level - r.threshold) false 0).1
  simp only [State.evaluateDemand, hr, State.raiseFor_of_some joined]

end

/-- Settles O30: the echo by Table 5-2, the demand of a record with and without an entry, and the queue's numbers and order. -/
theorem echoAndDemandAreTested : Obligations.EchoAndDemandAreTested := by
  refine ⟨fun i echo r s hr => ⟨fun hmode => State.requeueOnEcho_commission hmode i echo, fun a c e hmode ha row => ?_⟩,
    fun i r s hr => ⟨rfl, fun absent => State.recomputeExcess_of_absent hr (State.entryOf_none_iff.mpr absent),
      fun e he => ?_, fun level noDefrost absent latch => ?_, fun refused => ?_⟩,
    fun i excess passes manual s => ⟨fun h => State.joinQueue_of_le h i excess manual passes,
      fun h => State.joinQueue_of_gt h i excess manual passes⟩,
    fun e q => ⟨insertEntry_perm e q, fun sorted new => ?_⟩⟩
  · obtain ⟨rfl, rfl⟩ := Activity.row_of_mem row
    subst ha
    rw [State.requeueOnEcho_yard hr hmode]
    refine ⟨fun slot other => ?_, fun same => if_neg ?_⟩
    · rw [if_pos ⟨slot, other⟩]
      exact State.queueCommand_of_some hr (by simp [slot])
    · rintro ⟨slot, other⟩
      exact same.elim other fun h => h slot
  · have rewritten := State.recomputeExcess_of_entry hr he
    obtain ⟨-, here⟩ := State.mem_of_entryOf he
    refine ⟨fun manual => ?_, fun manual level => ?_, fun manual level => ?_⟩ <;> rw [rewritten, manual]
    · rfl
    · rw [if_neg Bool.false_ne_true, if_pos level, State.rewriteEntry, here]
      rfl
    · rw [if_neg Bool.false_ne_true, if_neg (not_le.mpr level), State.leaveQueue_eq]
  · rw [State.evaluateDemand_of_some hr, if_pos]
    exact ⟨level, by simp [noDefrost], State.entryOf_isNone_iff.mpr absent, by simp [latch]⟩
  · rw [State.evaluateDemand_of_some hr, if_neg]
    rintro ⟨level, noDefrost, absent, latch⟩
    rcases refused with h | h | ⟨e, he, h⟩ | h
    · exact absurd level (not_le.mpr h)
    · exact noDefrost h
    · exact State.entryOf_isNone_iff.mp absent e he h
    · exact latch h
  · simp only [← QueueEntry.ahead_iff] at sorted ⊢
    exact insertEntry_sorted sorted fun x hx => (new x hx).symm

/-! ## Eligibility -/

theorem State.eligible_iff {s : State} {r : TrailerRecord} :
    s.eligible r = true ↔ r.unitState = .live ∧ (∀ x, r.readings = some x → x.echo ≠ .off) ∧
      r.chain.map ChainEntry.kind = [.cool] ∧ r.notBefore = 0 ∧ s.mode = .yard := by
  have echo : (r.readings.map Readings.echo) ≠ some .off ↔ ∀ x, r.readings = some x → x.echo ≠ .off := by
    rw [Ne, Option.map_eq_some_iff]
    exact ⟨fun h x hx off => h ⟨x, hx, off⟩, fun h ⟨x, hx, off⟩ => h x hx off⟩
  simp only [State.eligible, TrailerRecord.atBase, Bool.and_eq_true, decide_eq_true_eq, echo, and_assoc]

/-- A pass skips an entry that is not eligible (R98). -/
theorem Pass.consider_ineligible {p : Pass} {i : RecIdx} {r : TrailerRecord} (hr : p.state.record? i = some r)
    (h : p.state.eligible r = false) : p.consider i = p := by
  unfold Pass.consider
  split
  · next found =>
    cases hr.symm.trans found
    rw [h, if_neg Bool.false_ne_true]
  · rfl

/-- Settles O32: the five conditions, the skip, and what QUEUE_GET shows of them. -/
theorem eligibilityIsReadOff : Obligations.EligibilityIsReadOff := by
  refine fun s r => ⟨State.eligible_iff, fun p i hr h => Pass.consider_ineligible hr h, fun e v hr hv => ?_⟩
  rw [State.queueView, hr, Option.map_some] at hv
  cases hv
  rfl

end Sys2Proof.Machine
end

section
/-! # Grants, and the pass that makes them -/

namespace Sys2Proof.Machine

open Sys2Proof

/-! ## A grant -/

theorem State.updRecord_eq (i : RecIdx) (f : TrailerRecord → TrailerRecord) (s : State) :
    ∃ v, s.updRecord i f = { s with records := v } := by
  unfold State.updRecord
  split
  · exact ⟨s.records, rfl⟩
  · exact ⟨_, rfl⟩

/-- A hand-off writes the records and the Downlink Queue alone. -/
theorem State.handOff_eq (i : RecIdx) (w : Command) (s : State) :
    ∃ v l, s.handOff i w = { s with records := v, downlink := l } := by
  have written : ∀ f : TrailerRecord → TrailerRecord, ∃ v l, s.updRecord i f = { s with records := v, downlink := l } :=
    fun f => by
      obtain ⟨v, h⟩ := s.updRecord_eq i f
      exact ⟨v, s.downlink, h⟩
  have same : ∃ v l, s = { s with records := v, downlink := l } := ⟨s.records, s.downlink, rfl⟩
  unfold State.handOff
  split
  · exact same
  · split
    · exact same
    · split
      · obtain ⟨v, h⟩ := s.updRecord_eq i fun r => { r with slot := .queued w }
        exact ⟨v, s.downlink ++ [i], by rw [State.queueCommand, h]⟩
      · exact written _
      · split
        · exact same
        · exact written _
      · split <;> exact written _

theorem effectiveOf_of_base {chain : List ChainEntry} (h : chain.map ChainEntry.kind = [.cool]) : effectiveOf chain = .cool := by
  obtain ⟨e, rfl, kind⟩ := List.map_eq_singleton_iff.mp h
  exact kind

/-- A grant to a record at [COOL]: its record, and the part but for its record and the Downlink Queue. -/
theorem State.grant_spec {s : State} {i : RecIdx} {r : TrailerRecord} (hr : s.record? i = some r)
    (base : r.chain.map ChainEntry.kind = [.cool]) (feeder : Option FeederNo) (load : Nat) :
    (∃ slot, State.leavesAt i
        { r.granted s.nextGrant feeder load with chain := pushOn r.chain .defrost none, changed := true, slot := slot } s
        (s.grant i feeder load)) ∧
      ∃ v l, s.grant i feeder load = { s.entered i feeder load r with records := v, downlink := l } := by
  have found : State.leavesAt i (r.marking (r.granted s.nextGrant feeder load)) s (s.entered i feeder load r) := by
    have left : State.leavesAt i r s (s.leaveQueue i) := ⟨hr, fun _ _ => rfl⟩
    refine (left.setRecord _).of_records ?_
    cases feeder <;> rfl
  have absent : (r.marking (r.granted s.nextGrant feeder load)).holds .defrost = false :=
    TrailerRecord.not_holds_defrost_of_atBase (by rwa [TrailerRecord.atBase, TrailerRecord.marking_chain, decide_eq_true_iff])
  rw [State.grant_eq hr, State.pushActivity_of_absent found.1 absent, TrailerRecord.marking_chain]
  obtain ⟨c, marked⟩ := r.marking_eq (r.granted s.nextGrant feeder load)
  rw [marked]
  exact ⟨(found.setRecord _).handOff rfl _, State.handOff_eq _ _ _⟩

/-- A grant takes its record's entry, and no other, from the queue. -/
theorem State.grant_queue {s : State} {i : RecIdx} {r : TrailerRecord} (hr : s.record? i = some r) (feeder : Option FeederNo)
    (load : Nat) : (s.grant i feeder load).queue = withoutRecord i s.queue := by
  rw [State.grant_eq hr]
  have pushed : ((s.entered i feeder load r).pushActivity i .defrost none).outsideRecords.queue =
      (s.entered i feeder load r).outsideRecords.queue := congrArg State.queue (State.pushActivity_frame _ _ _ _)
  refine Eq.trans pushed ?_
  cases feeder <;> rfl

/-- Settles O33: the entries of the grant, and the push that follows them. -/
theorem grantIsMade : Obligations.GrantIsMade := by
  intro i f load r s hr base
  obtain ⟨⟨slot, record, others⟩, v, l, granted⟩ := State.grant_spec hr base f load
  obtain ⟨w, charged⟩ := ((s.leaveQueue i).setRecord i (some (r.marking (r.granted s.nextGrant f load)))).charged_eq f load
  have feeders := ((s.leaveQueue i).setRecord i (some (r.marking (r.granted s.nextGrant f load)))).charged_feeder f load
  rw [charged] at feeders
  rw [State.entered, charged] at granted
  refine ⟨_, _, rfl, record, rfl, ?_, rfl, rfl, rfl, ?_, ?_, ?_, fun g => ?_, others, ?_⟩
  · show pushOn r.chain .defrost none = _
    rw [pushOn, effectiveOf_of_base base]
  · rw [granted]
    rfl
  · rw [granted]
    rfl
  · rw [granted]
    rfl
  · rw [granted]
    exact feeders g
  · rw [granted]
    rfl

/-! ## Table 6-2 -/

theorem marked_iff {l : List (FeederNo × RecIdx)} {f : FeederNo} {i : RecIdx} : marked l f i = true ↔ (f, i) ∈ l := by
  simp only [marked, List.any_eq_true, Bool.and_eq_true, decide_eq_true_eq, Prod.exists]
  constructor
  · rintro ⟨_, _, h, rfl, rfl⟩
    exact h
  · exact fun h => ⟨f, i, h, rfl, rfl⟩

theorem QueueEntry.isPinned_iff {e : QueueEntry} : e.isPinned = true ↔ 4 ≤ e.passCount := decide_eq_true_iff

section
variable {p : Pass} {i : RecIdx} {e : QueueEntry} {r : TrailerRecord} (hr : p.state.record? i = some r)
  (he : p.state.entryOf i = some e) (eligible : p.state.eligible r = true)
include hr he eligible

/-- A DIESEL entry is granted. -/
theorem Pass.consider_diesel (source : r.source = .diesel) :
    p.consider i = { p with state := p.state.grant i none (p.state.loadOf r) } := by
  simp only [Pass.consider, hr, he, eligible, if_true, State.feederOf, source]

/-- A SHORE entry is tried on the feeder of its zone. -/
theorem Pass.consider_shore (source : r.source = .shore) {f : FeederNo} (hf : f = p.state.zones[r.bay.zone].feeder) :
    p.consider i =
      if p.state.fits f (p.state.loadOf r) then
        if p.blocked.contains f then p
        else Pass.counted { p with state := p.state.grant i (some f) (p.state.loadOf r) } f
      else if e.isPinned then if p.blocked.contains f then p else { p with blocked := p.blocked ++ [f] }
      else { p with passedOver := p.passedOver ++ [(f, i)] } := by
  subst hf
  simp only [Pass.consider, hr, he, eligible, if_true, State.feederOf, source, State.zoneOf]

end

/-- A SHORE grant counts the entries marked on its feeder, and spends their marks (R101). -/
theorem Pass.counted_eq (p : Pass) (f : FeederNo) :
    p.counted f =
      { state := { p.state with queue := p.state.queue.map fun x =>
          if (f, x.record) ∈ p.passedOver then { x with passCount := min (x.passCount + 1) 4 } else x }
        passedOver := p.passedOver.filter fun x => x.1 ≠ f
        blocked := p.blocked
        short := p.short ++ (p.state.queue.filter fun x => (f, x.record) ∈ p.passedOver ∧ x.passCount = 3).map
          fun x => (f, x.record) } := by
  have pinned : ∀ x : QueueEntry, (marked p.passedOver f x.record && decide (x.passCount + 1 = Config.pinCount)) =
      decide ((f, x.record) ∈ p.passedOver ∧ x.passCount = 3) := fun x => by
    have three : x.passCount + 1 = Config.pinCount ↔ x.passCount = 3 := Nat.succ_inj
    rw [Bool.eq_iff_iff, Bool.and_eq_true, decide_eq_true_iff, decide_eq_true_iff, marked_iff, three]
  simp only [Pass.counted, countMarked, newlyPinned, marked_iff, pinned]
  rfl

/-! ## One count in a pass -/

/-- What a pass that has still to consider the records `l` has made of the queue `q` it started with: no record is queued or
marked twice, no mark is of a record still to be considered, and each entry is as it was, with fewer than 4 counts where it is
marked, or has gained one count and will gain no other (R101). -/
structure Pass.countsOnce (q : List QueueEntry) (l : List RecIdx) (p : Pass) : Prop where
  queuedOnce : (p.state.queue.map QueueEntry.record).Nodup
  markedOnce : (p.passedOver.map Prod.snd).Nodup
  considered : ∀ i ∈ p.passedOver.map Prod.snd, i ∉ l
  entries : ∀ x ∈ p.state.queue, ∃ e ∈ q,
    (x = e ∧ (x.record ∈ p.passedOver.map Prod.snd → x.passCount < 4)) ∨
      (x = { e with passCount := e.passCount + 1 } ∧ e.passCount < 4 ∧ x.record ∉ l ∧
        x.record ∉ p.passedOver.map Prod.snd)

namespace Pass.countsOnce

variable {q : List QueueEntry} {l : List RecIdx} {p : Pass}

theorem start {s : State} (once : (s.queue.map QueueEntry.record).Nodup) (l : List RecIdx) :
    Pass.countsOnce s.queue l ⟨s, [], [], []⟩ :=
  ⟨once, List.nodup_nil, nofun, fun x hx => ⟨x, hx, .inl ⟨rfl, nofun⟩⟩⟩

theorem tail {i : RecIdx} (h : p.countsOnce q (i :: l)) : p.countsOnce q l where
  queuedOnce := h.queuedOnce
  markedOnce := h.markedOnce
  considered j hj hl := h.considered j hj (List.mem_cons_of_mem i hl)
  entries x hx := by
    obtain ⟨e, he, same | ⟨counted, few, ahead, unmarked⟩⟩ := h.entries x hx
    · exact ⟨e, he, .inl same⟩
    · exact ⟨e, he, .inr ⟨counted, few, fun hl => ahead (List.mem_cons_of_mem i hl), unmarked⟩⟩

/-- Entries may leave the queue. -/
theorem of_sublist (h : p.countsOnce q l) {s : State} (queue : s.queue.Sublist p.state.queue) :
    Pass.countsOnce q l { p with state := s } where
  queuedOnce := h.queuedOnce.sublist (queue.map _)
  markedOnce := h.markedOnce
  considered := h.considered
  entries x hx := h.entries x (queue.subset hx)

/-- The marks on a feeder become counts. -/
theorem counted (h : p.countsOnce q l) (f : FeederNo) : (p.counted f).countsOnce q l where
  queuedOnce := by
    show ((countMarked _ _ _).map QueueEntry.record).Nodup
    rw [countMarked_records]
    exact h.queuedOnce
  markedOnce := h.markedOnce.sublist (List.filter_sublist.map _)
  considered i hi := h.considered i ((List.filter_sublist.map _).subset hi)
  entries := by
    intro y hy
    rw [Pass.counted_eq] at hy ⊢
    obtain ⟨x, hx, rfl⟩ := List.mem_map.mp hy
    obtain ⟨e, he, entry⟩ := h.entries x hx
    have fewer : ∀ i, i ∈ (p.passedOver.filter fun x => x.1 ≠ f).map Prod.snd → i ∈ p.passedOver.map Prod.snd :=
      fun i hi => (List.filter_sublist.map _).subset hi
    refine ⟨e, he, ?_⟩
    split
    · next mark =>
      have isMarked : x.record ∈ p.passedOver.map Prod.snd := List.mem_map_of_mem mark
      obtain ⟨rfl, few⟩ | ⟨-, -, -, unmarked⟩ := entry
      · refine .inr ⟨by rw [Nat.min_eq_left (few isMarked)], few isMarked, h.considered _ isMarked, fun again => ?_⟩
        obtain ⟨⟨g, j⟩, hj, same⟩ := List.mem_map.mp again
        obtain ⟨hmem, apart⟩ := List.mem_filter.mp hj
        have one := List.inj_on_of_nodup_map h.markedOnce hmem mark same
        exact of_decide_eq_true apart (congrArg Prod.fst one)
      · exact absurd isMarked unmarked
    · obtain ⟨same, few⟩ | ⟨counted, few, ahead, unmarked⟩ := entry
      · exact .inl ⟨same, fun hi => few (fewer _ hi)⟩
      · exact .inr ⟨counted, few, ahead, fun hi => unmarked (fewer _ hi)⟩

/-- An entry that is not pinned is marked as it is considered. -/
theorem mark {i : RecIdx} (h : p.countsOnce q (i :: l)) (new : i ∉ l) {e : QueueEntry} (he : p.state.entryOf i = some e)
    (few : e.passCount < 4) (f : FeederNo) :
    Pass.countsOnce q l { p with passedOver := p.passedOver ++ [(f, i)] } := by
  have unmarked : i ∉ p.passedOver.map Prod.snd := fun hi => h.considered i hi List.mem_cons_self
  have marks : ∀ j, j ∈ (p.passedOver ++ [(f, i)]).map Prod.snd ↔ j ∈ p.passedOver.map Prod.snd ∨ j = i := fun j => by
    rw [List.map_append, List.mem_append, List.map_singleton, List.mem_singleton]
  obtain ⟨mem, here⟩ := State.mem_of_entryOf he
  refine ⟨h.queuedOnce, ?_, fun j hj => ?_, fun x hx => ?_⟩
  · rw [List.map_append]
    exact List.Nodup.append h.markedOnce (List.nodup_singleton i) (List.disjoint_singleton.mpr unmarked)
  · rcases (marks j).mp hj with hj | rfl
    · exact h.tail.considered j hj
    · exact new
  · obtain ⟨o, ho, ⟨rfl, counts⟩ | ⟨counted, fewer, ahead, unmarked⟩⟩ := h.entries x hx
    · refine ⟨x, ho, .inl ⟨rfl, fun hj => ?_⟩⟩
      rcases (marks _).mp hj with hj | hj
      · exact counts hj
      · have one := List.inj_on_of_nodup_map h.queuedOnce hx mem (hj.trans here.symm)
        exact one ▸ few
    · refine ⟨o, ho, .inr ⟨counted, fewer, fun hl => ahead (List.mem_cons_of_mem i hl), fun hj => ?_⟩⟩
      rcases (marks _).mp hj with hj | hj
      · exact unmarked hj
      · exact ahead (hj ▸ List.mem_cons_self)

theorem consider {i : RecIdx} (h : p.countsOnce q (i :: l)) (new : i ∉ l) : (p.consider i).countsOnce q l := by
  unfold Pass.consider
  split
  · next e r he hr =>
    have granted : ∀ feeder load, Pass.countsOnce q l { p with state := p.state.grant i feeder load } := by
      intro feeder load
      refine h.tail.of_sublist ?_
      rw [State.grant_queue hr]
      exact List.filter_sublist
    split
    · simp only
      split
      · exact granted _ _
      · next f _ =>
        split
        · split
          · exact h.tail
          · exact (granted _ _).counted f
        · split
          · split
            · exact h.tail
            · exact ⟨h.tail.queuedOnce, h.tail.markedOnce, h.tail.considered, h.tail.entries⟩
          · next free => exact h.mark new he (not_le.mp (mt QueueEntry.isPinned_iff.mpr free)) f
    · exact h.tail
  · exact h.tail

/-- A walk over records, each once. -/
theorem walk (distinct : l.Nodup) (h : p.countsOnce q l) : (l.foldl Pass.consider p).countsOnce q [] := by
  induction l generalizing p with
  | nil => exact h
  | cons i l ih =>
    obtain ⟨new, distinct⟩ := List.nodup_cons.mp distinct
    exact ih distinct (h.consider new)

end Pass.countsOnce

/-! ## The pass -/

theorem State.raiseShort_of_none {s : State} {x : FeederNo × RecIdx} (hr : s.record? x.2 = none) : s.raiseShort x = s := by
  rw [State.raiseShort, hr]

theorem State.raiseShort_of_some {s : State} {x : FeederNo × RecIdx} {r : TrailerRecord} (hr : s.record? x.2 = some r) :
    s.raiseShort x = s.raise ⟨.trailer r.tag r.bay x.2,
      .feederShort x.1 (s.loadOf r) s.feeders[x.1].budget s.feeders[x.1].granted⟩ := by
  simp only [State.raiseShort, hr, State.raiseFor_of_some hr]

theorem State.queue_of_outsideNotices {s t : State} (h : t.outsideNotices = s.outsideNotices) : t.queue = s.queue := by
  have queue : t.outsideNotices.queue = s.outsideNotices.queue := congrArg State.queue h
  exact queue

/-- FEEDER_SHORT leaves the queue. -/
theorem State.grantPass_queue (s : State) : s.grantPass.queue = s.walkQueue.state.queue :=
  foldl_keeps State.queue State.raiseShort (fun s x => State.queue_of_outsideNotices (s.raiseShort_frame x)) _ _

/-- Settles O34: each row of Table 6-2, the events after the walk, and the counts along the walk. -/
theorem grantPassWalksTheQueue : Obligations.GrantPassWalksTheQueue := by
  refine ⟨fun p i e r load hr he eligible hload => ?_, fun s p hp => ?_, fun s once x hx => ?_⟩
  · have own : load = p.state.loadOf r := by
      rw [hload, State.loadOf, State.zoneOf]
      cases r.heaterLoad <;> rfl
    subst own
    refine ⟨Pass.consider_diesel hr he eligible, fun f t source hf ht => ?_⟩
    subst ht
    have tried := Pass.consider_shore hr he eligible source hf
    refine ⟨fun room free => ?_, fun room blocked => ?_, fun short few => ?_, fun short many => ?_⟩
    · rw [tried, if_pos (State.fits_iff.mpr room), if_neg (by simpa using free), Pass.counted_eq]
    · rw [tried, if_pos (State.fits_iff.mpr room), if_pos (by simpa using blocked)]
    · rw [tried, if_neg (mt State.fits_iff.mp (not_le.mpr short)), if_neg (mt QueueEntry.isPinned_iff.mp (not_le.mpr few))]
    · rw [tried, if_neg (mt State.fits_iff.mp (not_le.mpr short)), if_pos (QueueEntry.isPinned_iff.mpr many)]
      simp only [List.contains_iff_mem]
  · subst hp
    refine congrArg (fun step => List.foldl step s.walkQueue.state s.walkQueue.short) (funext fun t => funext fun x => ?_)
    cases hr : t.record? x.2 with
    | none => exact State.raiseShort_of_none hr
    | some r =>
      simp only [State.raiseShort_of_some hr, State.loadOf, State.zoneOf]
      cases r.heaterLoad <;> rfl
  · rw [State.grantPass_queue] at hx
    obtain ⟨e, he, ⟨same, -⟩ | ⟨counted, few, -⟩⟩ :=
      ((Pass.countsOnce.start once _).walk once).entries x hx
    · exact ⟨e, he, .inl same⟩
    · exact ⟨e, he, .inr ⟨few, counted⟩⟩

end Sys2Proof.Machine
end

section
/-! # SET_BUDGET, DEFROST_REQUEST and DEFROST_CANCEL -/

namespace Sys2Proof.Machine

open Sys2Proof

/-! ## SET_BUDGET -/

/-- A feeder written with the budget it has is left as it is. -/
theorem State.setFeeder_same {s : State} {f : FeederNo} {b : Nat} (h : s.feeders[f].budget = b) :
    s.setFeeder f { s.feeders[f] with budget := b } = s := by
  subst h
  exact congrArg (fun v => { s with feeders := v }) (Vector.set_getElem_self f.isLt)

section
variable {s : State} {f : FeederNo} {value : Nat}

theorem State.doSetBudget_raise (h : s.feeders[f].budget < min value 4000) :
    (s.doSetBudget f value).1 = (s.setFeeder f { s.feeders[f] with budget := min value 4000 }).grantPass := if_pos h

/-- A cut below the granted sum revokes grants of the feeder, and then runs a pass (R92, R111). -/
theorem State.doSetBudget_cut (h : min value 4000 < s.feeders[f].budget) (below : min value 4000 < s.feeders[f].granted) :
    (s.doSetBudget f value).1 =
      (State.cutGrants f s.grants.length (s.setFeeder f { s.feeders[f] with budget := min value 4000 })).grantPass := by
  have test : min value Config.maxBudget < s.feeders[f].budget ∧ min value Config.maxBudget < s.feeders[f].granted := ⟨h, below⟩
  exact (if_neg (not_lt.mpr h.le)).trans (if_pos test)

theorem State.doSetBudget_write (h : min value 4000 ≤ s.feeders[f].budget)
    (covered : min value 4000 = s.feeders[f].budget ∨ s.feeders[f].granted ≤ min value 4000) :
    (s.doSetBudget f value).1 = s.setFeeder f { s.feeders[f] with budget := min value 4000 } := by
  have test : ¬ (min value Config.maxBudget < s.feeders[f].budget ∧ min value Config.maxBudget < s.feeders[f].granted) := by
    rintro ⟨cut, below⟩
    exact covered.elim (ne_of_lt cut) (not_le.mpr below)
  exact (if_neg (not_lt.mpr h)).trans (if_neg test)

end

/-- Settles O36: the new budget against the old one and the granted sum, and a body that names no feeder. -/
theorem setBudgetRaisesAndCuts : Obligations.SetBudgetRaisesAndCuts := by
  refine ⟨fun f v s t hv h ht => ?_, fun f v1 v0 s h hf => ?_⟩
  · subst ht
    refine ⟨((s.received .cab).doSetBudget f v).1,
      exec_answered (m := .cab) (req := .setBudget f v) h (decide_eq_true hv) rfl rfl,
      fun raise => State.doSetBudget_raise raise, fun same => ?_,
      fun cut covered => State.doSetBudget_write cut.le (.inr covered), fun cut below => State.doSetBudget_cut cut below⟩
    exact (State.doSetBudget_write (s := s.received .cab) same.ge (.inl same.symm)).trans
      (State.setFeeder_same (s := s.received .cab) same)
  · have parse : Request.parse .setBudget [f, v1, v0] = none := by
      rw [parse_setBudget, finOf, dif_neg (not_lt.mpr hf), Option.map_none]
    have refused := judgeFrame_outOfRange (m := .cab) (k := .setBudget) rfl rfl parse (s.received .cab)
    exact (exec_frameCommand_of_ready h .setBudget [f, v1, v0]).trans (congrArg Host.Outcome.next refused)

/-! ## Defrosts asked for and cancelled -/

/-- OFC needs no right for a defrost, and PAT the DEFROST right. -/
theorem Request.defrost_right {m : Master} {n : Subject} {rights : Rights}
    (hm : m = .ofc ∨ (m = .pat ∧ rights.defrost = true)) :
    ∀ right, (Request.defrostRequest n).rightNeeded m = some right → rights.has right = true := by
  rintro right hright
  rcases hm with rfl | ⟨rfl, defrost⟩
  · cases hright
  · cases hright
    exact defrost

theorem Master.defrost_allowed {m : Master} {p : Prop} (hm : m = .ofc ∨ (m = .pat ∧ p)) :
    Kind.defrostRequest.allowedOn m.port := by
  rcases hm with rfl | ⟨rfl, -⟩ <;> rfl

section
variable {s : State} {i : RecIdx} {r : TrailerRecord} (hr : s.record? i = some r)
include hr

theorem State.doDefrostRequest_of_holds (m : Master) (h : r.holds .defrost = true) : s.doDefrostRequest m i = (s, .busy) := by
  simp only [State.doDefrostRequest, hr, h, if_true]

/-- The latch is cleared, an entry is made with FROST_DEMAND, and a pass runs (R96). -/
theorem State.doDefrostRequest_joins (m : Master) (h : r.holds .defrost = false) (absent : s.entryOf i = none)
    (room : s.nextJoin ≤ Config.counterTop) :
    s.doDefrostRequest m i =
      (({ (s.setRecord i (some (r.marking { r with cancelLatch := false }))) with
          queue := insertEntry ⟨i, 65535, true, s.nextJoin, 0⟩ s.queue, nextJoin := s.nextJoin + 1 }.raise
            ⟨.trailer r.tag r.bay i, .frostDemandManual m⟩).grantPass, .done .nothing) := by
  have latched : (s.setRecord i (some (r.marking { r with cancelLatch := false }))).entryOf i = none := absent
  have joined := State.joinQueue_of_le (s := s.setRecord i (some (r.marking { r with cancelLatch := false }))) room i
    Config.manualExcess true 0
  have found := (State.joinQueue_leavesAt (s := s)
    (State.leavesAt.setRecord ⟨hr, fun _ _ => rfl⟩ (r.marking { r with cancelLatch := false })) Config.manualExcess true 0).1
  simp only [State.doDefrostRequest, hr, h, Bool.false_eq_true, if_false, State.updRecord_of_some hr, latched,
    State.raiseFor_of_some found, TrailerRecord.marking_tag, TrailerRecord.marking_bay]
  rw [joined]
  rfl

/-- The latch is cleared, the standing entry is made manual, and a pass runs (R96). -/
theorem State.doDefrostRequest_rewrites (m : Master) (h : r.holds .defrost = false) {e : QueueEntry}
    (he : s.entryOf i = some e) :
    s.doDefrostRequest m i =
      ({ (s.setRecord i (some (r.marking { r with cancelLatch := false }))) with
          queue := insertEntry { e with manual := true, excess := 65535 } (s.queue.filter fun x => x.record ≠ i) }.grantPass,
        .done .nothing) := by
  have latched : (s.setRecord i (some (r.marking { r with cancelLatch := false }))).entryOf i = some e := he
  obtain ⟨-, here⟩ := State.mem_of_entryOf he
  simp only [State.doDefrostRequest, hr, h, Bool.false_eq_true, if_false, State.updRecord_of_some hr, latched,
    State.rewriteEntry, here]
  rfl

/-- A queued trailer leaves the queue, and its latch is set (R97). -/
theorem State.doDefrostCancel_of_queued {e : QueueEntry} (he : s.entryOf i = some e) :
    s.doDefrostCancel i =
      ((s.leaveQueue i).setRecord i (some (r.marking { r with cancelLatch := true })), .done .nothing) := by
  have left : (s.leaveQueue i).record? i = some r := hr
  simp only [State.doDefrostCancel, hr, he, State.updRecord_of_some left]

/-- A defrost is ended as CANCELLED; on any other trailer the latch is set (R97, R109). -/
theorem State.doDefrostCancel_of_absent (absent : s.entryOf i = none) :
    s.doDefrostCancel i =
      if r.run.isSome then ((s.endDefrost i .cancelled).grantPass, .done .nothing)
      else (s.setRecord i (some (r.marking { r with cancelLatch := true })), .done .nothing) := by
  simp only [State.doDefrostCancel, hr, absent, State.updRecord_of_some hr]

end

theorem State.entryOf_of_resolvesTo {s s' : State} {m : Master} {n : Subject} {res : Resolved}
    (h : (s.received m.port).resolvesTo m n s' res) (i : RecIdx) :
    s'.entryOf i = s.queue.find? fun x => x.record = i := by
  obtain ⟨c, rfl⟩ := State.resolvesTo_frame h
  rfl

/-- Settles O37: both requests through their judgement on a trailer that resolves at once, by its chain and its entry. -/
theorem defrostIsRequestedAndCancelled : Obligations.DefrostIsRequestedAndCancelled := by
  refine ⟨fun m n s s' res r h hm hn hres hr => ?_, fun n s s' res r h hn hres hr => ?_⟩
  · have judged : s'.judge m (.defrostRequest n) n res = s'.doDefrostRequest m res.record :=
      State.judge_passes (Request.defrost_right hm) (by cases m <;> rfl)
    have taken := fun u reply =>
      exec_resolved (req := .defrostRequest n) (u := u) (reply := reply) h hn (Master.defrost_allowed hm) rfl hres
    have entry := State.entryOf_of_resolvesTo hres res.record
    have queue : s'.queue = s.queue ∧ s'.nextJoin = s.nextJoin := by
      obtain ⟨c, rfl⟩ := State.resolvesTo_frame hres
      exact ⟨rfl, rfl⟩
    obtain ⟨queue, nextJoin⟩ := queue
    refine ⟨fun holds => ?_, fun free absent room => ?_, fun e free he => ?_⟩
    · exact taken _ _ (judged.trans (State.doDefrostRequest_of_holds hr m holds))
    · rw [← queue] at absent
      rw [← nextJoin] at room
      rw [← queue, ← nextJoin]
      exact taken _ _ (judged.trans (State.doDefrostRequest_joins hr m free (State.entryOf_none_iff.mpr absent) room))
    · rw [← queue]
      exact taken _ _ (judged.trans (State.doDefrostRequest_rewrites hr m free (entry.trans he)))
  · have judged : s'.judge .ofc (.defrostCancel n) n res = s'.doDefrostCancel res.record := State.judge_ofc rfl
    have taken := fun u reply =>
      exec_resolved (m := .ofc) (req := .defrostCancel n) (u := u) (reply := reply) h hn rfl rfl hres
    have absence : (∀ e ∈ s.queue, e.record ≠ res.record) → s'.entryOf res.record = none := fun absent =>
      (State.entryOf_of_resolvesTo hres res.record).trans (by simpa using absent)
    refine ⟨fun ⟨e, he, here⟩ => ?_, fun absent run => ?_, fun absent run => ?_⟩
    · cases entry : s'.entryOf res.record with
      | none =>
        rw [State.entryOf_of_resolvesTo hres, List.find?_eq_none] at entry
        exact absurd (decide_eq_true here) (entry e he)
      | some x => exact taken _ _ (judged.trans (State.doDefrostCancel_of_queued hr entry))
    · rw [State.doDefrostCancel_of_absent hr (absence absent), if_pos run] at judged
      exact taken _ _ judged
    · rw [State.doDefrostCancel_of_absent hr (absence absent), if_neg (by simp [run])] at judged
      exact taken _ _ judged

end Sys2Proof.Machine
end

section
/-! # The restart cause stands until the next restart -/

namespace Sys2Proof.Machine

open Sys2Proof

theorem cause_of_outsideScheduler {s t : State} (h : t.outsideScheduler = s.outsideScheduler) : t.cause = s.cause := by
  have cause : t.outsideScheduler.cause = s.outsideScheduler.cause := congrArg State.cause h
  exact cause

theorem cause_of_outsideRecords {s t : State} (h : t.outsideRecords = s.outsideRecords) : t.cause = s.cause :=
  cause_of_outsideScheduler (outsideScheduler_of_outsideRecords h)

theorem cause_of_outsideNotices {s t : State} (h : t.outsideNotices = s.outsideNotices) : t.cause = s.cause :=
  cause_of_outsideScheduler (outsideScheduler_of_outsideNotices h)

namespace State

/-! ## Notices, ticks and lookups -/

@[simp] theorem raise_cause (e : Event) (s : State) : (s.raise e).cause = s.cause :=
  cause_of_outsideNotices (s.raise_frame e)

@[simp] theorem raiseFor_cause (i : RecIdx) (d : Detail) (s : State) : (s.raiseFor i d).cause = s.cause := s.raise_cause _

@[simp] theorem updRecord_cause (i : RecIdx) (f : TrailerRecord → TrailerRecord) (s : State) :
    (s.updRecord i f).cause = s.cause := cause_of_outsideRecords (s.updRecord_frame i f)

@[simp] theorem grantPass_cause (s : State) : s.grantPass.cause = s.cause := cause_of_outsideScheduler s.grantPass_frame

@[simp] theorem endDefrost_cause (i : RecIdx) (k : EndKind) (s : State) : (s.endDefrost i k).cause = s.cause :=
  cause_of_outsideScheduler (s.endDefrost_frame i k)

@[simp] theorem pushActivity_cause (i : RecIdx) (k : Activity) (setBy : Option Master) (s : State) :
    (s.pushActivity i k setBy).cause = s.cause := cause_of_outsideRecords (s.pushActivity_frame i k setBy)

@[simp] theorem removeActivity_cause (i : RecIdx) (k : Activity) (s : State) : (s.removeActivity i k).cause = s.cause :=
  cause_of_outsideRecords (s.removeActivity_frame i k)

@[simp] theorem settle_cause (s : State) : s.settle.cause = s.cause :=
  (cause_of_outsideScheduler s.settle_frame).trans rfl

@[simp] theorem takeDue_cause (e : TickEvent) (s : State) : (s.takeDue e).cause = s.cause := by
  unfold takeDue
  split
  · exact (cause_of_outsideScheduler (take_frame e { s with due := s.due.erase e })).trans rfl
  · rfl

@[simp] theorem secondTick_cause (s : State) : s.secondTick.cause = s.cause := by
  unfold secondTick
  split
  · rw [s.countTick_frame]
  · split <;> rfl
  · rfl

@[simp] theorem lookup_cause (w : Waiter) (t : Tag) (s : State) : (s.lookup w t).1.cause = s.cause := by
  obtain ⟨c, e, l, h⟩ := s.lookup_frame w t
  rw [h]

/-! ## Requests on a resolved trailer -/

theorem forgetCommands_cause (i : RecIdx) (s : State) : (s.forgetCommands i).cause = s.cause :=
  s.updRecord_cause i fun r => { r with slot := .empty }

theorem forgetChecks_cause (t : Tag) (s : State) : (s.forgetChecks t).cause = s.cause := rfl

theorem freed_cause (s : State) (i : RecIdx) (b : BayAddr) (t : Tag) : (s.freed i b t).cause = s.cause := rfl

@[simp] theorem doRelease_cause (i : RecIdx) (t : Tag) (s : State) : (s.doRelease i t).1.cause = s.cause := by
  have released : (s.releaseDefrost i).cause = s.cause := by
    unfold releaseDefrost
    split
    · rw [grantPass_cause, endDefrost_cause]
    · rfl
  cases hr : s.record? i with
  | none => rw [doRelease_of_none hr]
  | some r =>
    rw [doRelease_of_some hr]
    exact (freed_cause _ _ _ _).trans ((forgetChecks_cause _ _).trans ((forgetCommands_cause i _).trans released))

@[simp] theorem doMove_cause (i : RecIdx) (t : Tag) (b : BayAddr) (s : State) : (s.doMove i t b).1.cause = s.cause := by
  rcases s.doMove_cases i t b with h | ⟨r, -, -, h⟩ <;> rw [h]
  rfl

@[simp] theorem doDefrostRequest_cause (m : Master) (i : RecIdx) (s : State) :
    (s.doDefrostRequest m i).1.cause = s.cause := by
  unfold doDefrostRequest
  split
  · rfl
  · split
    · rfl
    · refine (grantPass_cause _).trans ?_
      split
      · exact (raiseFor_cause _ _ _).trans
          ((cause_of_outsideScheduler (joinQueue_frame _ _ _ _ _)).trans (s.updRecord_cause i _))
      · exact s.updRecord_cause i _

@[simp] theorem doDefrostCancel_cause (i : RecIdx) (s : State) : (s.doDefrostCancel i).1.cause = s.cause := by
  unfold doDefrostCancel
  simp only
  split
  · exact updRecord_cause i _ _
  · split
    · rw [grantPass_cause, endDefrost_cause]
    · exact s.updRecord_cause i _
  · rfl

@[simp] theorem doHoldClear_cause (i : RecIdx) (s : State) : (s.doHoldClear i).1.cause = s.cause := by
  unfold doHoldClear
  simp only
  split
  · exact (grantPass_cause _).trans ((cause_of_outsideScheduler (evaluateDemand_frame _ _)).trans (s.removeActivity_cause i _))
  · exact s.removeActivity_cause i _

@[simp] theorem closeItem_cause (m : Master) (i : RecIdx) (t : Tag) (result : CloseResult) (s : State) :
    (s.closeItem m i t result).cause = s.cause := by
  cases result with
  | secure | ajar => rfl
  | damaged => exact raise_cause _ _
  | fuel level refuelled => exact cause_of_outsideRecords (postFuel_frame i level refuelled _)

@[simp] theorem actOn_cause (m : Master) (req : Request) (res : Resolved) (s : State) :
    (s.actOn m req res).1.cause = s.cause := by
  cases req with
  | recordGet n =>
    show (s.doRecordGet m res.record).1.cause = _
    unfold doRecordGet
    split <;> rfl
  | collect n =>
    show (s.doCollect res.record).1.cause = _
    unfold doCollect
    split <;> rfl
  | recordEdit n load override =>
    show (s.doRecordEdit res.record load override).1.cause = _
    unfold doRecordEdit
    split
    · rfl
    · split
      · rfl
      · exact s.updRecord_cause res.record _
  | move t b => exact s.doMove_cause res.record t b
  | release t => exact s.doRelease_cause res.record t
  | defrostRequest n => exact s.doDefrostRequest_cause m res.record
  | defrostCancel n => exact s.doDefrostCancel_cause res.record
  | holdSet n =>
    show (s.doHoldSet m res.record).1.cause = _
    unfold doHoldSet
    split
    · rfl
    · exact s.pushActivity_cause res.record _ _
  | holdClear n =>
    simp only [actOn]
    split
    · exact s.doHoldClear_cause res.record
    · rfl
  | fuelPost n level refuelled => exact cause_of_outsideRecords (s.postFuel_frame res.record level refuelled)
  | checkAdd n k p => exact cause_of_outsideNotices (s.doCheckAdd_frame res.record k p)
  | checkClose t result =>
    simp only [actOn]
    split
    · exact s.closeItem_cause m res.record t result
    · rfl
  | revoke n deferral =>
    simp only [actOn]
    split
    · exact (grantPass_cause _).trans (s.endDefrost_cause res.record _)
    · rfl
  | _ => rfl

@[simp] theorem judge_cause (m : Master) (req : Request) (n : Subject) (res : Resolved) (s : State) :
    (s.judge m req n res).1.cause = s.cause := by
  unfold judge
  split
  · exact s.raiseFor_cause res.record _
  · split
    · rfl
    · exact s.actOn_cause m req res

/-! ## Requests that name no placed trailer -/

@[simp] theorem doPlace_cause (t : Tag) (b : BayAddr) (source : Option Source) (load : Option Nat) (s : State) :
    (s.doPlace t b source load).1.cause = s.cause := by
  unfold doPlace
  split
  · rfl
  · split <;> rfl

theorem cutGrants_cause (f : FeederNo) (n : Nat) (s : State) : (cutGrants f n s).cause = s.cause :=
  cause_of_outsideScheduler (cutGrants_frame f n s)

@[simp] theorem doSetBudget_cause (f : FeederNo) (value : Nat) (s : State) : (s.doSetBudget f value).1.cause = s.cause := by
  unfold doSetBudget
  simp only
  split
  · exact grantPass_cause _
  · split
    · exact (grantPass_cause _).trans (cutGrants_cause f _ _)
    · rfl

@[simp] theorem actPlain_cause (m : Master) (req : Request) (s : State) : (s.actPlain m req).1.cause = s.cause := by
  cases req with
  | zoneSet z e =>
    show (s.doZoneSet z e).1.cause = _
    rw [doZoneSet_eq]
    split <;> rfl
  | sweepSeen =>
    show s.doSweepSeen.1.cause = _
    simp only [doSweepSeen]
  | clockTrim =>
    show s.doClockTrim.1.cause = _
    unfold doClockTrim
    split
    · split
      · exact (cause_of_outsideNotices (testPlans_frame { s with clock := s.clock.nextMinute })).trans rfl
      · rfl
    · rfl
  | configSet v =>
    cases v with
    | attention n mode =>
      show (s.setAttention n mode).cause = _
      unfold setAttention
      split <;> rfl
    | _ => rfl
  | fetchNotice =>
    show (s.doFetch m).1.cause = _
    unfold doFetch
    simp only
    split <;> rfl
  | releaseNotices => exact cause_of_outsideNotices (s.closeWindow_frame m)
  | setBudget f value => exact s.doSetBudget_cause f value
  | _ => rfl

/-! ## Requests that wait for a lookup -/

@[simp] theorem goOn_cause (m : Master) (req : Request) (a : Answer) (s : State) : (s.goOn m req a).1.cause = s.cause := by
  unfold goOn
  split
  · rfl
  · split
    · rfl
    · split
      · exact s.judge_cause m req _ _
      · rfl
  · split
    · exact s.doPlace_cause _ _ _ _
    · split <;> rfl

@[simp] theorem lookupFor_cause (m : Master) (req : Request) (t : Tag) (s : State) :
    (s.lookupFor m req t).1.cause = s.cause := (goOn_cause m req _ _).trans (s.lookup_cause _ t)

@[simp] theorem offerItems_cause (m : Master) (n : Nat) (considered : List Nat) (s : State) :
    (s.offerItems m n considered).1.cause = s.cause := by
  induction n generalizing considered s with
  | zero => rfl
  | succ n ih =>
    unfold offerItems
    split
    · rfl
    · next it _ =>
      have looked := s.lookup_cause (.master m) it.tag
      split <;> rename_i heq <;> rw [heq] at looked
      · split
        · exact looked
        · exact (ih _ _).trans looked
      · exact (ih _ _).trans looked
      · exact looked

@[simp] theorem resumeNextCheck_cause (m : Master) (considered : List Nat) (item : Nat) (a : Answer) (s : State) :
    (s.resumeNextCheck m considered item a).1.cause = s.cause := by
  unfold resumeNextCheck
  simp only
  split
  · split
    · rfl
    · exact s.offerItems_cause m _ _
  · exact s.offerItems_cause m _ _

@[simp] theorem takeRequest_cause (m : Master) (req : Request) (s : State) : (s.takeRequest m req).1.cause = s.cause := by
  unfold takeRequest
  split
  · unfold startNextCheck
    split
    · rfl
    · exact s.offerItems_cause m _ _
  · split
    · exact s.lookupFor_cause m _ _
    · rfl
  · split
    · exact s.actPlain_cause m _
    · exact s.lookupFor_cause m _ _
    · split
      · rfl
      · exact s.judge_cause m _ _ _

@[simp] theorem answer_cause (m : Master) (kind : Byte) (r : State × Option MasterReply) :
    (answer m kind r).cause = r.1.cause := by
  unfold answer
  split <;> rfl

/-! ## The Report Intake -/

theorem dropHead_cause (s : State) : s.dropHead.cause = s.cause := rfl

@[simp] theorem discardUnknown_cause (u : UnitReport) (s : State) : (s.discardUnknown u).cause = s.cause := s.raise_cause _

@[simp] theorem answerIntake_cause (a : Answer) (s : State) : (s.answerIntake a).cause = s.cause := by
  unfold answerIntake
  split
  · rfl
  · exact s.discardUnknown_cause _
  · rfl
  · rfl

@[simp] theorem takeHead_cause (s : State) : s.takeHead.cause = s.cause := by
  unfold takeHead
  split
  · split
    · rfl
    · exact (answerIntake_cause _ _).trans (s.lookup_cause _ _)
  · rfl

@[simp] theorem applyHead_cause (s : State) : s.applyHead.cause = s.cause := by
  unfold applyHead
  split
  · split
    · exact s.discardUnknown_cause _
    · split
      · exact s.discardUnknown_cause _
      · split
        · rfl
        · split
          · rfl
          · exact (dropHead_cause _).trans (cause_of_outsideScheduler (s.applyReport_frame _ _ _ _))
  · rfl

/-! ## Frames, replies and searches -/

theorem beginReply_cause (p : PortId) (kind : Byte) (body : ReplyBody) (s : State) :
    (s.beginReply p kind body).cause = s.cause := rfl

theorem replyUnit_cause (kind : Byte) (status : UnitStatus) (s : State) : (s.replyUnit kind status).cause = s.cause :=
  (beginReply_cause _ _ _ _).trans (cause_of_outsideRecords s.sendHead_frame)

@[simp] theorem takeUnit_cause (k : Kind) (body : List Byte) (s : State) : (s.takeUnit k body).cause = s.cause := by
  unfold takeUnit
  split
  · refine (replyUnit_cause _ _ _).trans ?_
    unfold arrive
    split
    · rfl
    · exact s.raise_cause _
  · exact replyUnit_cause _ _ _

@[simp] theorem judgeFrame_cause (p : PortId) (kind : Byte) (body : List Byte) (s : State) :
    (s.judgeFrame p kind body).cause = s.cause := by
  unfold judgeFrame
  split
  · rfl
  · split
    · rfl
    · split
      · rfl
      · split
        · exact s.takeUnit_cause _ body
        · split
          · rfl
          · exact (answer_cause _ _ _).trans (s.takeRequest_cause _ _)

@[simp] theorem receiveFrame_cause (p : PortId) (kind : Byte) (body : List Byte) (s : State) :
    (receiveFrame p kind body s).cause = s.cause := by
  by_cases hsupply : s.supply = .inService
  · rw [receiveFrame_inService hsupply]
    split
    · exact (s.received p).judgeFrame_cause p kind body
    · unfold oweBusy
      split <;> rfl
  · rw [receiveFrame_outOfService hsupply]

@[simp] theorem setReceiver_cause (p : PortId) (r : Receiver) (s : State) : (setReceiver p r s).cause = s.cause := by
  unfold setReceiver
  split <;> rfl

@[simp] theorem completeReply_cause (p : PortId) (s : State) : (s.completeReply p).cause = s.cause := by
  unfold completeReply
  simp only
  split
  · rfl
  · split
    · split <;> rfl
    all_goals rfl

@[simp] theorem deliver_cause (w : Waiter) (a : Answer) (s : State) : (s.deliver w a).cause = s.cause := by
  unfold deliver
  split
  · exact s.answerIntake_cause a
  · next m =>
    split
    · next held _ =>
      refine (answer_cause _ _ _).trans ?_
      cases held with
      | request req => exact s.goOn_cause m req a
      | nextCheck considered item => exact s.resumeNextCheck_cause m considered item a
    all_goals rfl

@[simp] theorem completeSearch_cause (s : State) : s.completeSearch.cause = s.cause := by
  unfold completeSearch
  split
  · rfl
  · next q _ =>
    obtain ⟨c, result⟩ := searchResult_frame q.tag s
    refine (deliver_cause _ _ _).trans ?_
    rw [result]

@[simp] theorem endPulse_cause (m : Master) (s : State) : (s.endPulse m).cause = s.cause := by
  unfold endPulse
  split <;> rfl

theorem whenInService_cause {f : State → State} (hf : ∀ s : State, (f s).cause = s.cause) (s : State) :
    (s.whenInService f).cause = s.cause := by
  unfold whenInService
  split
  · exact hf s
  · rfl

/-! ## Supplies -/

@[simp] theorem failMains_cause (s : State) : s.failMains.cause = s.cause := by
  unfold failMains
  split <;> rfl

@[simp] theorem applySupply_cause (s : State) : s.applySupply.cause = s.cause := by
  unfold applySupply
  split <;> rfl

end State

/-- A command that is no restart and no loss of the state leaves the restart cause (R182). -/
theorem exec_cause {c : Instr} {s t : State} (steady : mayRestart c = false) (run : exec c s = .next t) :
    t.cause = s.cause := by
  have settled := s.settle_cause
  cases c with
  | unitReport p body | poll p body | unknownKind p kind body | portBusy p kind body | zoneSet p body | zoneGet p body
  | baySet p body | place p body | move p body | release p body | recordGet p body | recordEdit p body | collect p body
  | scanChanged p body | sweepSeen p body | flushTags p body | clockSet p body | clockTrim p body | clockGet p body
  | planSet p body | planGet p body | linkSet p body | linkGet p body | configSet p body | configGet p body
  | defrostRequest p body | defrostCancel p body | holdSet p body | holdClear p body | fuelPost p body | checkAdd p body
  | checkClose p body | checkList p body | queueGet p body | feederGet p body | fetchNotice p body | holdNotices p body
  | releaseNotices p body | statusGet p body | yardRestart p body | setBudget p body | revoke p body | nextCheck p body =>
    cases run
    exact (State.receiveFrame_cause p _ body _).trans settled
  | frameCheckFail p | interbyteTimeout p | syncByte p =>
    cases run
    exact (State.setReceiver_cause p _ _).trans settled
  | bodyLengthAbove120 p length =>
    cases run
    split
    · exact (State.setReceiver_cause p _ _).trans settled
    · exact settled
  | replyComplete p =>
    cases run
    exact (State.whenInService_cause (State.completeReply_cause p) _).trans settled
  | searchComplete =>
    cases run
    exact (State.whenInService_cause State.completeSearch_cause _).trans settled
  | takeHead =>
    cases run
    exact (State.whenInService_cause State.takeHead_cause _).trans settled
  | reportApplication =>
    cases run
    exact (State.whenInService_cause State.applyHead_cause _).trans settled
  | pulseEnd m =>
    cases run
    exact (State.whenInService_cause (State.endPulse_cause m) _).trans settled
  | minuteRollover | unitSilent i | doorOpenLong i | abandoned i | timedOut i | defrostNotBeforeZero i | cmdUnconfirmed i
  | checkTimeout i k | suppressionWindowExpiry m =>
    cases run
    exact s.takeDue_cause _
  | secondTick =>
    cases run
    exact (State.secondTick_cause _).trans settled
  | supplyApplied =>
    cases run
    exact (State.applySupply_cause _).trans settled
  | mfailAsserted =>
    cases run
    exact (State.failMains_cause _).trans settled
  | restartAct _ | mfailReleased _ | supplyLoss => cases steady

/-! ## The three restarts -/

theorem exec_restartAct {s : State} (hdue : s.due = []) (strap : Bool) :
    exec (.restartAct strap) s = .next (s.yardRestart strap) := by
  show Host.Outcome.next (s.settle.yardRestart strap) = _
  rw [State.settle_of_nothing_due hdue]

theorem State.yardRestart_of_due {s : State} (hsupply : s.supply = .inService) (hrestart : s.restartDue = true)
    (strap : Bool) : s.yardRestart strap = s.warmRestart .yardRestart strap := if_pos ⟨hsupply, hrestart⟩

theorem exec_mfailReleased {s : State} (hsupply : s.supply = .standby) (hdue : s.due = []) (strap : Bool) :
    exec (.mfailReleased strap) s =
      .next (if s.coldPending then s.coldStart strap else s.warmRestart .mainsReturn strap) := by
  show Host.Outcome.next (s.settle.returnMains strap) = _
  rw [State.settle_of_nothing_due hdue, State.returnMains, hsupply]

/-- The queue is rebuilt from the records alone (R117). -/
theorem State.rebuildQueue_with (s : State) (cause : RestartCause) (coldPending : Bool) :
    State.rebuildQueue { s with cause := cause, coldPending := coldPending } =
      { s.rebuildQueue with cause := cause, coldPending := coldPending } := rfl

/-- A yard restart is a mains return of the part, with its own cause (R179, R182). -/
theorem State.warmRestart_yardRestart (s : State) (strap : Bool) :
    s.warmRestart .yardRestart strap =
      { State.warmRestart .mainsReturn strap { s with supply := .standby, coldPending := false } with
        cause := .yardRestart, coldPending := s.coldPending } := by
  have cleared : s.clearVolatile .yardRestart strap =
      { State.clearVolatile .mainsReturn strap { s with supply := .standby, coldPending := false } with
        cause := .yardRestart, coldPending := s.coldPending } := by
    have record : ∀ i, State.record? { s with supply := .standby, coldPending := false } i = s.record? i := fun _ => rfl
    have threshold : ∀ r, State.effectiveThreshold { s with supply := .standby, coldPending := false } r =
        s.effectiveThreshold r := fun _ => rfl
    simp only [State.clearVolatile, record, threshold]
  rw [State.warmRestart, cleared, State.rebuildQueue_with, State.warmRestart]

/-- After each restart no desk holds a notice. -/
theorem notices_of_cold {s : State} (h : s.desks = .all Desk.cold) (m : Master) : (s.desk m).notices = [] := by
  rw [State.desk, h]
  cases m <;> rfl

/-- Settles O53: the yard restart as a mains return, the values of each restart, and the cause under every other command. -/
theorem yardRestartActsAndCausesStand : Obligations.YardRestartActsAndCausesStand := by
  refine ⟨fun strap s hdue => ⟨fun hsupply hrestart => ?_, fun idle => ?_⟩, fun strap s t hdue run hsupply => ?_,
    fun strap s t hdue run hsupply hrestart => ?_, fun c s t steady run => exec_cause steady run, fun m s h => ?_⟩
  · refine ⟨_, exec_mfailReleased_warm (s := { s with supply := .standby, coldPending := false }) rfl rfl hdue, ?_⟩
    rw [exec_restartAct hdue, State.yardRestart_of_due hsupply hrestart, State.warmRestart_yardRestart]
  · rw [exec_restartAct hdue, State.yardRestart, if_neg (by simp [idle])]
  · rw [exec_mfailReleased hsupply hdue] at run
    split at run <;> cases run
    · next cold => exact ⟨by rw [cold]; rfl, rfl, notices_of_cold rfl⟩
    · next warm => exact ⟨by rw [if_neg warm]; rfl, rfl, notices_of_cold rfl⟩
  · rw [exec_restartAct hdue, State.yardRestart_of_due hsupply hrestart] at run
    cases run
    exact ⟨rfl, rfl, notices_of_cold rfl⟩
  · exact ⟨_, exec_answered (req := .statusGet) h rfl (by cases m <;> rfl) rfl, rfl⟩

end Sys2Proof.Machine
end

section
/-! # The command slot: the hand-off and the confirmation -/

namespace Sys2Proof.Machine

open Sys2Proof

section
variable {s : State} {i : RecIdx} {r : TrailerRecord} (hr : s.record? i = some r)
include hr

/-! ## A write of the slot alone -/

/-- A slot that changes sets the changed flag (R21). -/
theorem State.updRecord_of_slot_ne {slot : Slot} (h : slot ≠ r.slot) :
    (s.updRecord i fun r => { r with slot := slot }) =
      s.setRecord i (some { r with slot := slot, changed := true }) := by
  rw [State.updRecord_of_some hr, TrailerRecord.marking_slot h]

/-- A slot written back as it was leaves the changed flag too (R21). -/
theorem State.updRecord_of_slot_eq {slot : Slot} (h : r.slot = slot) :
    (s.updRecord i fun r => { r with slot := slot }) = s := by
  subst h
  rw [State.updRecord_of_some hr, TrailerRecord.marking_of_eq rfl, ← hr, State.setRecord_record?]

/-! ## The hand-off, by the slot it finds (Table 7-2) -/

section
variable (yard : s.mode = .yard) (w : Command)
include yard

theorem State.handOff_of_empty (slot : r.slot = .empty) : s.handOff i w = s.queueCommand i w := by
  simp only [State.handOff, yard, hr, slot]

theorem State.handOff_of_queued {q : Command} (slot : r.slot = .queued q) :
    s.handOff i w = s.updRecord i fun r => { r with slot := .queued w } := by
  simp only [State.handOff, yard, hr, slot]

theorem State.handOff_of_sent {f : InFlight} (slot : r.slot = .sent f) :
    s.handOff i w = if f.command = w then s else s.updRecord i fun r => { r with slot := .sentNext f w } := by
  simp only [State.handOff, yard, hr, slot]

theorem State.handOff_of_sentNext {f : InFlight} {n : Command} (slot : r.slot = .sentNext f n) :
    s.handOff i w =
      if f.command = w then s.updRecord i fun r => { r with slot := .sent f }
      else s.updRecord i fun r => { r with slot := .sentNext f w } := by
  simp only [State.handOff, yard, hr, slot]

end

/-! ## The confirmation, by what is in flight (R125) -/

theorem State.matchConfirmation_of_idle (idle : r.slot.flight = none) (n : Nat) :
    s.matchConfirmation i (some n) = s := by
  simp only [State.matchConfirmation, hr, idle]

theorem State.matchConfirmation_of_flight {f : InFlight} (flight : r.slot.flight = some f) (n : Nat) :
    s.matchConfirmation i (some n) = if n = f.sequence.val then s.clearFlight i else s := by
  simp only [State.matchConfirmation, hr, flight]

end

/-- In COMMISSION mode a hand-off is discarded (R130). -/
theorem State.handOff_of_commission {s : State} (commission : s.mode = .commission) (i : RecIdx) (w : Command) :
    s.handOff i w = s := by
  simp only [State.handOff, commission]

/-- A report that confirms nothing clears nothing (R125). -/
@[simp] theorem State.matchConfirmation_none (i : RecIdx) (s : State) : s.matchConfirmation i none = s := by
  unfold State.matchConfirmation
  cases s.record? i <;> rfl

/-- Settles O27: the row of Table 7-2 by the slot found, each with a slot that changes or one that stays; then the cases of
R125. -/
theorem slotFollowsItsTables : Obligations.SlotFollowsItsTables := by
  refine ⟨fun i w r s hr => ⟨fun commission => State.handOff_of_commission commission i w,
      fun yard => ⟨fun slot => ?empty, fun q slot other => ?queued, fun q slot same => ?queuedSame,
        fun f slot same => ?sentSame, fun f slot other => ?sent, fun f n slot same => ?nextCleared,
        fun f n slot other change => ?next, fun f n slot other same => ?nextSame⟩⟩,
    fun i r f n s hr => ⟨State.matchConfirmation_none i s, fun idle => State.matchConfirmation_of_idle hr idle n,
      fun flight other => ?unmatched, fun slot same => ?confirmed, fun next slot same => ?confirmedNext⟩⟩
  case empty =>
    rw [State.handOff_of_empty hr yard w slot, State.queueCommand_of_some hr (by simp [slot])]
  case queued =>
    rw [State.handOff_of_queued hr yard w slot, State.updRecord_of_slot_ne hr (by simpa [slot] using other.symm)]
  case queuedSame =>
    rw [State.handOff_of_queued hr yard w slot, State.updRecord_of_slot_eq hr (by rw [slot, same])]
  case sentSame =>
    rw [State.handOff_of_sent hr yard w slot, if_pos same]
  case sent =>
    rw [State.handOff_of_sent hr yard w slot, if_neg other, State.updRecord_of_slot_ne hr (by simp [slot])]
  case nextCleared =>
    rw [State.handOff_of_sentNext hr yard w slot, if_pos same, State.updRecord_of_slot_ne hr (by simp [slot])]
  case next =>
    rw [State.handOff_of_sentNext hr yard w slot, if_neg other,
      State.updRecord_of_slot_ne hr (by simpa [slot] using change.symm)]
  case nextSame =>
    rw [State.handOff_of_sentNext hr yard w slot, if_neg other, State.updRecord_of_slot_eq hr (by rw [slot, same])]
  case unmatched =>
    rw [State.matchConfirmation_of_flight hr flight, if_neg other]
  case confirmed =>
    rw [State.matchConfirmation_of_flight hr (congrArg Slot.flight slot), if_pos same,
      State.clearFlight_of_sent hr slot]
  case confirmedNext =>
    rw [State.matchConfirmation_of_flight hr (congrArg Slot.flight slot), if_pos same,
      State.clearFlight_of_sentNext hr slot]

end Sys2Proof.Machine
end

section
/-! # The Yard Clock -/

namespace Sys2Proof.Machine

open Sys2Proof

/-! ## One second on the clock (R132) -/

theorem Clock.tick_of_second_lt {c : Clock} (h : c.time.second < 59) :
    c.tick = { c with time := { c.time with second := c.time.second + 1 } } :=
  if_neg (by simpa [Clock.aboutToRoll] using h)

theorem Clock.tick_of_second_eq {c : Clock} (h : c.time.second = 59) : c.tick = c.nextMinute :=
  if_pos (decide_eq_true h.ge)

theorem Clock.nextMinute_of_minute_lt {c : Clock} (h : c.time.minute < 59) :
    c.nextMinute = { c with time := { c.time with minute := c.time.minute + 1, second := 0 } } := if_pos h

theorem Clock.nextMinute_of_hour_lt {c : Clock} (hminute : c.time.minute = 59) (hhour : c.time.hour < 23) :
    c.nextMinute = { c with time := { c.time with hour := c.time.hour + 1, minute := 0, second := 0 } } := by
  rw [Clock.nextMinute, if_neg hminute.not_lt, if_pos hhour]

theorem Clock.nextMinute_of_midnight {c : Clock} (hminute : c.time.minute = 59) (hhour : c.time.hour = 23) :
    c.nextMinute = { c with time := c.time.nextDay, weekday := nextWeekday c.weekday } := by
  rw [Clock.nextMinute, if_neg hminute.not_lt, if_neg hhour.not_lt]

/-! ## The calendar (Table 8-2) -/

theorem YardTime.nextDay_within_month {t : YardTime} (h : t.day < monthLength t.year t.month) :
    t.nextDay = ⟨t.year, t.month, t.day + 1, 0, 0, 0⟩ := if_pos h

theorem YardTime.nextDay_at_month_end {t : YardTime} (hday : t.day = monthLength t.year t.month) (hmonth : t.month < 12) :
    t.nextDay = ⟨t.year, t.month + 1, 1, 0, 0, 0⟩ :=
  (if_neg hday.not_lt).trans (if_pos hmonth)

theorem YardTime.nextDay_at_year_end {t : YardTime} (hyear : t.year ≤ 99) (hday : t.day = 31) (hmonth : t.month = 12) :
    t.nextDay = ⟨if t.year = 99 then 0 else t.year + 1, 1, 1, 0, 0, 0⟩ := by
  have lastDay : ¬ t.day < monthLength t.year t.month := by
    rw [hday, hmonth]
    exact lt_irrefl 31
  have carry : (if t.year < 99 then t.year + 1 else 0) = if t.year = 99 then 0 else t.year + 1 := by
    split <;> split <;> omega
  rw [← carry]
  exact (if_neg lastDay).trans (if_neg hmonth.not_lt)

theorem nextWeekday_eq {w : Nat} (h : w ≤ 7) : nextWeekday w = if w = 7 then 1 else w + 1 := by
  unfold nextWeekday
  split <;> split <;> omega

theorem YardTime.year_le_of_inRange {t : YardTime} (h : t.inRange = true) : t.year ≤ 99 := by
  simp only [YardTime.inRange, Bool.and_eq_true, decide_eq_true_eq] at h
  omega

/-! ## CLOCK_TRIM (R134) -/

theorem State.doClockTrim_of_not_valid {s : State} (h : s.clock.valid = false) : s.doClockTrim = (s, .busy) :=
  if_neg (by simp [h])

theorem State.doClockTrim_of_early {s : State} (hvalid : s.clock.valid = true) (h : s.clock.time.second < 30) :
    s.doClockTrim = ({ s with clock := { s.clock with time := { s.clock.time with second := 0 } } }, .done .nothing) :=
  (if_pos hvalid).trans (if_neg (not_le.mpr h))

theorem State.doClockTrim_of_late {s : State} (hvalid : s.clock.valid = true) (h : 30 ≤ s.clock.time.second) :
    s.doClockTrim = ({ s with clock := s.clock.nextMinute }.testPlans, .done .nothing) :=
  (if_pos hvalid).trans (if_pos h)

/-- CLOCK_TRIM is answered with what its owning block makes of it. -/
theorem exec_clockTrim {s u : State} {reply : MasterReply} (h : s.ready .ofc)
    (trimmed : (s.received .ofc).doClockTrim = (u, reply)) :
    exec (.clockTrim .ofc []) s = .next (u.answered .ofc .clockTrim reply) :=
  exec_answered (m := .ofc) (req := .clockTrim) h rfl rfl (congrArg (fun r => (r.1, some r.2)) trimmed)

/-- Settles O39: the carries one after another up to the calendar's, then the two requests. -/
theorem clockCarriesAndIsSet : Obligations.ClockCarriesAndIsSet := by
  refine ⟨fun c hc => ⟨Clock.tick_of_second_lt, fun hs hm => ?minute, fun hs hm hh => ?hour, fun hs hm hh => ?midnight⟩,
    fun t w s h => ⟨fun ht hw1 hw7 => ?set, fun hvalid => ?_, fun hvalid early => ?_, fun hvalid late => ?_⟩⟩
  case minute => rw [Clock.tick_of_second_eq hs, Clock.nextMinute_of_minute_lt hm]
  case hour => rw [Clock.tick_of_second_eq hs, Clock.nextMinute_of_hour_lt hm hh]
  case midnight =>
    obtain ⟨range, -, weekday⟩ := hc
    rw [Clock.tick_of_second_eq hs, Clock.nextMinute_of_midnight hm hh]
    exact ⟨nextWeekday_eq weekday, rfl, YardTime.nextDay_within_month, YardTime.nextDay_at_month_end,
      YardTime.nextDay_at_year_end (YardTime.year_le_of_inRange range)⟩
  case set =>
    have range : (Request.clockSet t w).inRange = true := by simp [Request.inRange, ht, hw1, hw7]
    exact exec_answered (m := .ofc) (req := .clockSet t w) h range rfl rfl
  · exact exec_clockTrim h (State.doClockTrim_of_not_valid hvalid)
  · exact exec_clockTrim h (State.doClockTrim_of_early hvalid early)
  · exact exec_clockTrim h (State.doClockTrim_of_late hvalid late)

end Sys2Proof.Machine
end

section
/-! # The Round Plans -/

namespace Sys2Proof.Machine

open Sys2Proof

/-! ## When the plans are tested (R135) -/

theorem State.testPlans_of_not_tested {s : State} (h : ¬ (s.clock.valid = true ∧ s.supply = .inService)) :
    s.testPlans = s := if_neg h

theorem State.testPlans_of_tested {s : State} (hvalid : s.clock.valid = true) (hsupply : s.supply = .inService) :
    s.testPlans = (List.finRange 8).foldl State.testPlan s := if_pos ⟨hvalid, hsupply⟩

/-! ## What a plan asks for (R137, R138) -/

/-- A plan is tested by its match alone where it is active. -/
theorem State.testPlan_eq (s : State) (p : Fin 8) :
    s.testPlan p =
      if s.plans[p].active = true ∧ s.plans[p].rule.met s.clock = true then s.roundMatch p s.plans[p] else s := rfl

/-- An item asked for at a bay by a plan that covers the trailer there, by the kind of the plan. -/
theorem State.roundBay_eq (p : Fin 8) (plan : Plan) (s : State) (b : BayAddr) :
    s.roundBay p plan b =
      match (s.bayAt b).occupant with
      | none => s
      | some i => match s.record? i with
        | none => s
        | some r =>
          if plan.kind = .doorRound then (s.askItem ⟨r.tag, i, .door, .normal, .round p, s.clock.time⟩).1
          else if r.source = .diesel then (s.askItem ⟨r.tag, i, .fuel, .normal, .round p, s.clock.time⟩).1
          else s := by
  unfold State.roundBay
  cases (s.bayAt b).occupant with
  | none => rfl
  | some i =>
    simp only
    cases s.record? i with
    | none => rfl
    | some r => cases hkind : plan.kind <;> simp [PlanKind.covers, PlanKind.checkKind, State.now]

/-! ## The walk (R138) -/

theorem mem_maskBays {mask : BitVec 8} {b : BayAddr} : b ∈ maskBays mask ↔ mask.getLsbD b.zone.val = true := by
  simp only [maskBays, List.mem_flatMap, List.mem_filter, List.mem_finRange, true_and, List.mem_map]
  constructor
  · rintro ⟨z, hz, bay, rfl⟩
    exact hz
  · intro hz
    exact ⟨b.zone, hz, b.bay, rfl⟩

theorem pairwise_maskBays (mask : BitVec 8) :
    (maskBays mask).Pairwise fun a b => a.zone < b.zone ∨ (a.zone = b.zone ∧ a.bay < b.bay) := by
  refine List.pairwise_flatMap.mpr ⟨fun z _ => ?bays, ?zones⟩
  case bays =>
    exact List.pairwise_map.mpr ((List.sortedLT_finRange 16).pairwise.imp fun lt => .inr ⟨rfl, lt⟩)
  case zones =>
    refine ((List.sortedLT_finRange 8).pairwise.filter _).imp fun {y z} lt a ha b hb => .inl ?_
    obtain ⟨_, -, rfl⟩ := List.mem_map.mp ha
    obtain ⟨_, -, rfl⟩ := List.mem_map.mp hb
    exact lt

/-- Settles O40: the test of one plan by the form of its match, and its walk as the equation of one bay. -/
theorem plansAreTested : Obligations.PlansAreTested := by
  refine ⟨fun s => State.testPlans_of_not_tested, fun s => State.testPlans_of_tested, fun p s plan met hplan hmet => ?_,
    fun mask => ⟨fun b => mem_maskBays, pairwise_maskBays mask⟩⟩
  have tested : met ↔ plan.rule.met s.clock = true := by
    rw [hmet]
    cases plan.rule with
    | every period => simp [PlanMatch.met]
    | atTime minute hour weekday day range => cases range <;> simp [PlanMatch.met, and_assoc]
  subst hplan
  rw [tested, State.testPlan_eq]
  refine ⟨fun no => if_neg no, fun active yes => ?_⟩
  rw [if_pos ⟨active, yes⟩, State.roundMatch]
  exact congrArg (fun step => List.foldl step _ _) (funext₂ fun t b => State.roundBay_eq p s.plans[p] t b)

end Sys2Proof.Machine
end

section
/-! # The Check List: items asked for, and issue order -/

namespace Sys2Proof.Machine

open Sys2Proof

/-! ## An item asked for (R140) -/

/-- An item asked for where one of its trailer and kind stands merges into it. -/
theorem State.tryAdd_of_present {q : CheckAsk} {s : State} (h : ∃ x ∈ s.checks, x.isFor q.tag q.kind = true) :
    s.tryAdd q =
      ({ s with checks := s.checks.map fun it =>
          if it.isFor q.tag q.kind then { it with priority := it.priority.higher q.priority } else it }, .merged) :=
  if_pos (List.any_eq_true.mpr h)

theorem State.tryAdd_of_absent {q : CheckAsk} {s : State} (h : ∀ x ∈ s.checks, ¬ x.isFor q.tag q.kind = true) :
    s.tryAdd q =
      if s.checks.length < 64 then
        ({ s with checks := s.checks ++ [q.item s.nextSerial], nextSerial := s.nextSerial + 1 }, .appended)
      else (s, .refused) :=
  if_neg fun any => by
    obtain ⟨x, mem, isFor⟩ := List.any_eq_true.mp any
    exact h x mem isFor

theorem State.tryAdd_of_room {q : CheckAsk} {s : State} (h : ∀ x ∈ s.checks, ¬ x.isFor q.tag q.kind = true)
    (room : s.checks.length < 64) :
    s.tryAdd q =
      ({ s with checks := s.checks ++ [q.item s.nextSerial], nextSerial := s.nextSerial + 1 }, .appended) := by
  rw [State.tryAdd_of_absent h, if_pos room]

theorem Priority.higher_eq (p q : Priority) : p.higher q = if p = .urgent then .urgent else q := by
  cases p <;> rfl

/-- A map that writes only the elements a test takes writes one element where it takes that one alone. -/
theorem map_ite_of_unique {α : Type} {p : α → Bool} {f : α → α} {before after : List α} {a : α} (ha : p a = true)
    (others : ∀ x ∈ before ++ after, ¬ p x = true) :
    (before ++ a :: after).map (fun x => if p x then f x else x) = before ++ f a :: after := by
  have same : ∀ l : List α, (∀ x ∈ l, ¬ p x = true) → l.map (fun x => if p x then f x else x) = l := fun l hl =>
    (List.map_congr_left fun x mem => if_neg (hl x mem)).trans (List.map_id' l)
  rw [List.map_append, List.map_cons, if_pos ha, same before fun x mem => others x (List.mem_append_left _ mem),
    same after fun x mem => others x (List.mem_append_right _ mem)]

/-! ## Issue order (R142) -/

/-- A stamp as the list of its fields, year first. -/
def YardTime.fields (t : YardTime) : List Nat := [t.year, t.month, t.day, t.hour, t.minute, t.second]

theorem YardTime.earlier_iff (a b : YardTime) : a.earlier b = true ↔ a.fields < b.fields := by
  simp [YardTime.earlier, YardTime.fields, List.cons_lt_cons_iff]

/-- What issue order compares of an item: its priority, URGENT first, and then created-at. -/
def CheckItem.issueKey (it : CheckItem) : List Nat := (if it.priority = .urgent then 0 else 1) :: it.createdAt.fields

theorem CheckItem.ahead_iff (a b : CheckItem) : a.ahead b = true ↔ a.issueKey < b.issueKey := by
  unfold CheckItem.ahead CheckItem.issueKey
  cases a.priority <;> cases b.priority <;> simp [YardTime.earlier_iff, List.cons_lt_cons_iff]

theorem CheckItem.not_ahead_iff (a b : CheckItem) : a.ahead b = false ↔ b.issueKey ≤ a.issueKey := by
  rw [← Bool.not_eq_true, CheckItem.ahead_iff, not_lt]

/-- Issue order is the insertion sort by the issue key. -/
theorem issueOrder_eq_insertionSort (l : List CheckItem) :
    issueOrder l = l.insertionSort fun a b => a.issueKey ≤ b.issueKey := by
  have inserted : ∀ (a : CheckItem) (l : List CheckItem),
      insertItem a l = l.orderedInsert (fun a b => a.issueKey ≤ b.issueKey) a := by
    intro a l
    induction l with
    | nil => rfl
    | cons b l ih =>
      rw [insertItem, List.orderedInsert_cons, ih]
      by_cases h : a.issueKey ≤ b.issueKey
      · rw [if_pos h, (CheckItem.not_ahead_iff b a).mpr h, if_neg Bool.false_ne_true]
      · rw [if_neg h, if_pos ((CheckItem.ahead_iff b a).mpr (not_le.mp h))]
  induction l with
  | nil => rfl
  | cons a l ih => rw [issueOrder, List.insertionSort_cons, ih, inserted]

theorem issueOrder_perm (l : List CheckItem) : (issueOrder l).Perm l := by
  rw [issueOrder_eq_insertionSort]
  exact List.perm_insertionSort _ l

theorem pairwise_issueOrder (l : List CheckItem) : (issueOrder l).Pairwise fun a b => a.issueKey ≤ b.issueKey := by
  have total : Std.Total fun a b : CheckItem => a.issueKey ≤ b.issueKey := ⟨fun _ _ => le_total _ _⟩
  have trans : IsTrans CheckItem fun a b => a.issueKey ≤ b.issueKey := ⟨fun _ _ _ => le_trans⟩
  rw [issueOrder_eq_insertionSort]
  exact List.pairwise_insertionSort _ l

/-- Items that tie keep the order of addition: any choice of them stands sorted already, and so in the sorted list too. -/
theorem filter_issueOrder {p : CheckItem → Bool} (h : ∀ a b, p a = true → p b = true → a.issueKey ≤ b.issueKey)
    (l : List CheckItem) : (issueOrder l).filter p = l.filter p := by
  have sorted : (l.filter p).Pairwise fun a b => a.issueKey ≤ b.issueKey :=
    List.pairwise_of_forall_mem_list fun a ha b hb => h a b (List.mem_filter.mp ha).2 (List.mem_filter.mp hb).2
  have sub : (l.filter p).Sublist (issueOrder l) := by
    rw [issueOrder_eq_insertionSort]
    exact List.sublist_insertionSort sorted List.filter_sublist
  have kept : (l.filter p).Sublist ((issueOrder l).filter p) := by
    simpa using sub.filter p
  exact (kept.eq_of_length ((issueOrder_perm l).filter p).length_eq.symm).symm

/-- Settles O41: the three cases of R140, and issue order as a sort by a key, which is stable. -/
theorem checkListTakesAndOrders : Obligations.CheckListTakesAndOrders := by
  refine ⟨fun q s => ⟨fun before it after hchecks isFor others => ?merged, fun absent room => ?appended,
    fun absent full => ?refused⟩, fun l => ⟨issueOrder_perm l, ?ordered, fun x => ?ties⟩⟩
  case merged =>
    have present : ∃ x ∈ s.checks, x.isFor q.tag q.kind = true := ⟨it, by simp [hchecks], isFor⟩
    have written := map_ite_of_unique (p := fun x : CheckItem => x.isFor q.tag q.kind)
      (f := fun x => { x with priority := x.priority.higher q.priority }) isFor others
    rw [State.tryAdd_of_present present, hchecks, written, Priority.higher_eq]
  case appended =>
    exact ⟨q.item s.nextSerial, State.tryAdd_of_room absent room, rfl, rfl, rfl, rfl, rfl, rfl, rfl, rfl⟩
  case refused => rw [State.tryAdd_of_absent absent, if_neg (not_lt.mpr full)]
  case ordered => exact (pairwise_issueOrder l).imp fun le => (CheckItem.not_ahead_iff _ _).mpr le
  case ties =>
    refine filter_issueOrder (fun a b ha hb => ?_) l
    simp only [Bool.and_eq_true, Bool.not_eq_true', CheckItem.not_ahead_iff] at ha hb
    exact ha.2.trans hb.1

end Sys2Proof.Machine
end

section
/-! # Events, their notices, and the items they ask for -/

namespace Sys2Proof.Machine

open Sys2Proof

/-! ## The masters told of an event (R156) -/

/-- A master's desk once an event has been offered to it, where its link entry names that master. -/
def State.deskTold (s : State) (e : Event) (m : Master) : Desk :=
  if s.links[e.detail.kind.index].notify.get m then
    (s.desk m).offer (s.settings.attention.get m) (e.notice s.clock.time)
  else s.desk m

theorem State.offerTo_eq (s : State) (e : Event) (m : Master) : s.offerTo e m = s.setDesk m (s.deskTold e m) := by
  unfold State.offerTo State.deskTold
  split
  · rfl
  · cases m <;> rfl

theorem State.deskTold_setDesk_ne {m n : Master} (s : State) (e : Event) (d : Desk) (h : m ≠ n) :
    (s.setDesk m d).deskTold e n = s.deskTold e n := by
  rw [State.deskTold, State.desk_setDesk_ne s d h]
  rfl

/-- Each of the three offers is made to a desk that the offers before it leave as it was. -/
theorem State.notify_eq (s : State) (e : Event) :
    s.notify e = { s with desks := ⟨s.deskTold e .ofc, s.deskTold e .cab, s.deskTold e .pat⟩ } := by
  simp only [State.notify, State.offerTo_eq, State.deskTold_setDesk_ne, ne_eq, reduceCtorEq, not_false_eq_true]
  rfl

theorem State.desk_notify (s : State) (e : Event) (m : Master) : (s.notify e).desk m = s.deskTold e m := by
  rw [State.notify_eq]
  cases m <;> rfl

/-! ## The item asked for (R157) -/

/-- An event about no trailer, or whose action is NONE, asks for no item. -/
theorem State.urgentAsk_eq_none {s : State} {e : Event}
    (h : s.links[e.detail.kind.index].action = .none ∨ ∀ t b i, e.subject ≠ .trailer t b i) : s.urgentAsk e = none := by
  unfold State.urgentAsk
  cases hsubject : e.subject with
  | trailer t b i =>
    have action := h.resolve_right fun not => not t b i hsubject
    simp only [action]
  | tagAlone t => rfl
  | absent => rfl

/-- An event about a trailer asks for an URGENT item of its action's kind, with itself as origin. -/
theorem State.urgentAsk_eq_some {s : State} {e : Event} {t : Tag} {b : BayAddr} {i : RecIdx} {k : CheckKind}
    (hsubject : e.subject = .trailer t b i)
    (haction : (s.links[e.detail.kind.index].action, k) ∈
      [(LinkAction.doorCheckUrgent, CheckKind.door), (.fuelCheckUrgent, .fuel)]) :
    s.urgentAsk e = some ⟨t, i, k, .urgent, .event e.detail.kind, s.clock.time⟩ := by
  simp only [List.mem_cons, Prod.mk.injEq, List.not_mem_nil, or_false] at haction
  rcases haction with ⟨action, rfl⟩ | ⟨action, rfl⟩ <;> simp only [State.urgentAsk, hsubject, action] <;> rfl

/-! ## Raising (R140, R156) -/

/-- CHECK_LIST_FULL is raised with an item that raises no further one. -/
theorem State.raise_of_listFull {e : Event} (h : e.detail.kind = .checkListFull) (s : State) :
    s.raise e = s.raiseListFull e := by
  rw [State.raise, h]

/-- An event that asks for no item gives its notices and nothing more. -/
theorem State.raise_of_no_ask {e : Event} {s : State} (h : (s.notify e).urgentAsk e = none) : s.raise e = s.notify e := by
  unfold State.raise State.raiseListFull
  split <;> simp only [h]

/-- An event that asks for an item asks for it once its notices are given. -/
theorem State.raise_of_ask {e : Event} {s : State} {q : CheckAsk} (h : (s.notify e).urgentAsk e = some q) :
    s.raise e =
      if e.detail.kind = .checkListFull then ((s.notify e).tryAdd q).1 else ((s.notify e).askItem q).1 := by
  split
  · next full =>
    rw [State.raise_of_listFull full, State.raiseListFull]
    simp only [h]
  · next other =>
    unfold State.raise
    split
    · exact absurd ‹_› other
    · simp only [h]

/-- An item that is merged or appended is no more than that. -/
theorem State.askItem_of_taken {q : CheckAsk} {s : State} (h : (s.tryAdd q).2 ≠ .refused) : s.askItem q = s.tryAdd q := by
  unfold State.askItem
  split
  · next refused => exact absurd (congrArg Prod.snd refused) h
  · next taken => exact taken.symm

/-- An item that is refused leaves the list as it was. -/
theorem State.tryAdd_of_refused {q : CheckAsk} {s : State} (h : (s.tryAdd q).2 = .refused) : s.tryAdd q = (s, .refused) := by
  unfold State.tryAdd at h ⊢
  split at h
  · cases h
  · next absent =>
    rw [if_neg absent]
    split at h
    · cases h
    · next full => rw [if_neg full]

/-- An item that is refused raises CHECK_LIST_FULL with its trailer, kind and origin. -/
theorem State.askItem_of_refused {q : CheckAsk} {r : TrailerRecord} {s : State} (h : (s.tryAdd q).2 = .refused)
    (hr : s.record? q.record = some r) :
    s.askItem q = (s.raise ⟨.trailer r.tag r.bay q.record, .checkListFull q.kind q.origin⟩, .refused) := by
  rw [State.raise_of_listFull rfl, ← State.subjectOf_of_some hr]
  simp only [State.askItem, State.tryAdd_of_refused h]

/-! ## A notice offered (R159, R162, R163) -/

theorem Desk.offer_of_room {d : Desk} (h : d.notices.length < 16) (mode : AttentionMode) (n : Notice) :
    d.offer mode n =
      { notices := d.notices ++ [{ n with lostBefore := d.lost }], lost := false, window := d.window
        line := match mode with
          | .level => d.window.isNone
          | .pulse => d.line || d.window.isNone } := by
  have room : d.notices.length < Config.noticeDepth := h
  rw [Desk.offer, if_pos room]
  cases mode <;> simp [Desk.drive, Desk.levelLine]

theorem Desk.offer_of_full {d : Desk} (h : 16 ≤ d.notices.length) (mode : AttentionMode) (n : Notice) :
    d.offer mode n = { d with lost := true } := if_neg (not_lt.mpr h)

/-- Settles O44: the notices first, which write the desks alone, then the item of the link's action; what becomes of an item;
and the offer of one notice. -/
theorem eventReachesItsMasters : Obligations.EventReachesItsMasters := by
  refine ⟨fun e s => ⟨s.notify e, by rw [s.notify_eq], s.desk_notify e, fun noItem => ?_, fun t b i k hsubject haction => ?_⟩,
    fun q r s => ⟨State.askItem_of_taken, State.askItem_of_refused⟩,
    fun mode n d => ⟨fun room => ?_, fun full => Desk.offer_of_full full mode n⟩⟩
  · refine State.raise_of_no_ask (State.urgentAsk_eq_none ?_)
    rw [s.notify_eq]
    exact noItem
  · have ask : (s.notify e).urgentAsk e = some ⟨t, i, k, .urgent, .event e.detail.kind, s.clock.time⟩ := by
      rw [s.notify_eq]
      exact State.urgentAsk_eq_some hsubject haction
    rw [State.raise_of_ask ask]
    split
    · next full => rw [full]
    · rfl
  · rw [Desk.offer_of_room room]
    refine ⟨rfl, rfl, rfl, ?_, ?_⟩ <;> rintro rfl <;> rfl

end Sys2Proof.Machine
end

section
/-! # CHECK_ADD, CHECK_CLOSE and NEXT_CHECK -/

namespace Sys2Proof.Machine

open Sys2Proof

/-! ## CHECK_ADD (R141) -/

/-- CHECK_ADD of an item that no other merges with, on a list with room. -/
theorem State.doCheckAdd_of_room {s : State} {i : RecIdx} {r : TrailerRecord} {k : CheckKind} (hr : s.record? i = some r)
    (absent : ∀ x ∈ s.checks, ¬ x.isFor r.tag k = true) (room : s.checks.length < 64) (pr : Priority) :
    s.doCheckAdd i k pr =
      ({ s with
          checks := s.checks ++ [(⟨r.tag, i, k, pr, .manual, .pending, s.clock.time, 0, s.nextSerial⟩ : CheckItem)]
          nextSerial := s.nextSerial + 1 }, .done (.added false)) := by
  have added := State.tryAdd_of_room (q := ⟨r.tag, i, k, pr, .manual, s.now⟩) absent room
  have asked := (State.askItem_of_taken (by rw [added]; exact nofun)).trans added
  simp only [State.doCheckAdd, hr, asked]
  rfl

/-! ## CHECK_CLOSE (R146, R147) -/

/-- A request that PAT needs a right for is allowed to OFC with no right, and to PAT with that one (R11). -/
theorem Request.right_of_ofc_or_pat {m : Master} {req : Request} {right : Right} {rights : Rights}
    (hneed : req.rightNeeded .pat = some right) (hm : m = .ofc ∨ (m = .pat ∧ rights.has right = true)) :
    ∀ x, req.rightNeeded m = some x → rights.has x = true := by
  rcases hm with rfl | ⟨rfl, held⟩
  · exact fun _ hx => nomatch hx
  · intro x hx
    obtain rfl : right = x := Option.some.inj (hneed.symm.trans hx)
    exact held

/-- CHECK_CLOSE with its right, on a trailer that has an item of its kind, closes it and answers DONE. -/
theorem exec_checkClose {m : Master} {t : Tag} {result : CloseResult} {s s' : State} {res : Resolved} (h : s.ready m.port)
    (hm : m = .ofc ∨ (m = .pat ∧ res.rights.check = true)) (hrange : (Request.checkClose t result).inRange = true)
    (hres : (s.received m.port).resolvesTo m (.tag t) s' res) (present : ∃ x ∈ s'.checks, x.isFor t result.kind = true) :
    exec (.checkClose m.port (Request.checkClose t result).body) s =
      .next ((s'.closeItem m res.record t result).answered m.port .checkClose (.done .nothing)) := by
  have port : Kind.checkClose.allowedOn m.port := by rcases hm with rfl | ⟨rfl, -⟩ <;> decide
  have unlocked : s'.lockRefuses m (.checkClose t result) res = false := by cases m <;> rfl
  refine exec_resolved (req := .checkClose t result) h hrange port rfl hres ?_
  rw [State.judge_passes (Request.right_of_ofc_or_pat rfl hm) unlocked]
  exact if_pos (List.any_eq_true.mpr present)

/-- Settles O42: CHECK_ADD as an append, and CHECK_CLOSE as the removal of its item with the further effect of Table 8-4. -/
theorem checksAreAddedAndClosed : Obligations.ChecksAreAddedAndClosed := by
  intro m n t k pr level refuelled s s' res r h hr
  refine ⟨?add, fun hm hres => ?close⟩
  case add =>
    rintro rfl hn hres absent room
    obtain ⟨c, rfl⟩ := State.resolvesTo_frame hres
    refine exec_resolved (m := .ofc) (req := .checkAdd n k pr) h hn rfl rfl hres ?_
    rw [State.judge_ofc rfl]
    exact State.doCheckAdd_of_room hr absent room pr
  case close =>
    have tag : t ≠ 0 := State.tag_ne_zero_of_resolvesTo hres
    obtain ⟨c, rfl⟩ := State.resolvesTo_frame hres
    refine ⟨fun present => ⟨?secure, ?ajar, ?damaged⟩, fun present hlevel => ?fuel⟩
    case secure => exact exec_checkClose (result := .secure) h hm (decide_eq_true tag) hres present
    case ajar => exact exec_checkClose (result := .ajar) h hm (decide_eq_true tag) hres present
    case damaged =>
      rw [exec_checkClose (result := .damaged) h hm (decide_eq_true tag) hres present, ← State.subjectOf_of_some hr]
      rfl
    case fuel =>
      have range : (Request.checkClose t (.fuel level refuelled)).inRange = true :=
        Bool.and_eq_true_iff.mpr ⟨decide_eq_true tag, decide_eq_true hlevel⟩
      exact exec_checkClose h hm range hres present

/-! ## NEXT_CHECK (R143 to R145) -/

/-- NEXT_CHECK goes to its own step of the Round and Check Unit. -/
theorem exec_nextCheck {s u : State} {reply : MasterReply} (h : s.ready .pat)
    (started : (s.received .pat).startNextCheck .pat = (u, some reply)) :
    exec (.nextCheck .pat []) s = .next (u.answered .pat .nextCheck reply) :=
  exec_answered (m := .pat) (req := .nextCheck) h rfl rfl started

theorem State.startNextCheck_of_full {s : State} (h : 4 ≤ s.issuedCount) (m : Master) :
    s.startNextCheck m = (s, some .full) := if_pos h

theorem State.startNextCheck_of_places {s : State} (h : s.issuedCount < 4) (m : Master) :
    s.startNextCheck m = s.offerItems m s.checks.length [] := if_neg (not_le.mpr h)

/-- With no item left to consider NEXT_CHECK is EMPTY, whatever its bound. -/
theorem State.offerItems_of_none {s : State} {considered : List Nat} (h : s.nextPending considered = none) (m : Master)
    (n : Nat) : s.offerItems m n considered = (s, some (.empty .nothing)) := by
  cases n with
  | zero => rfl
  | succ n => simp only [State.offerItems, h]

/-- An item whose lookup hits with CHECK is issued. -/
theorem State.offerItems_of_hit {s s' : State} {considered : List Nat} {it : CheckItem} {m : Master} {res : Resolved}
    (h : s.nextPending considered = some it) (look : s.lookup (.master m) it.tag = (s', .found res))
    (check : res.rights.check = true) (n : Nat) :
    s.offerItems m (n + 1) considered = s'.issueItem it res.bay := by
  simp only [State.offerItems, h, look, check, if_true]

/-- A NEXT_CHECK that has considered nothing takes the first PENDING item. -/
theorem State.nextPending_nil (s : State) : s.nextPending [] = (issueOrder s.checks).find? CheckItem.isPending := by
  simp [State.nextPending]

/-- Settles O43: the three outcomes of R143 where no item is passed over. -/
theorem nextCheckIssues : Obligations.NextCheckIssues := by
  intro it s s' res h
  refine ⟨fun full => exec_nextCheck h (State.startNextCheck_of_full (s := s.received .pat) full .pat),
    fun settled places => exec_nextCheck h ?_,
    fun places first look check => exec_nextCheck h ?_⟩
  · have noneLeft : (s.received .pat).nextPending [] = none := by
      rw [State.nextPending_nil, List.find?_eq_none]
      intro x mem
      rw [settled x ((issueOrder_perm s.checks).mem_iff.mp mem)]
      exact Bool.false_ne_true
    rw [State.startNextCheck_of_places (s := s.received .pat) places, State.offerItems_of_none noneLeft]
  · have listed : it ∈ s.checks := (issueOrder_perm s.checks).mem_iff.mp (List.mem_of_find?_eq_some first)
    obtain ⟨n, length⟩ := Nat.exists_eq_add_one_of_ne_zero (List.length_pos_of_mem listed).ne'
    have offered := State.offerItems_of_hit ((s.received .pat).nextPending_nil.trans first) look check n
    obtain ⟨c, e, l, frame⟩ := State.lookup_frame (.master .pat) it.tag (s.received .pat)
    rw [look] at frame
    subst frame
    rw [State.startNextCheck_of_places (s := s.received .pat) places]
    exact (congrArg (fun n => (s.received .pat).offerItems .pat n []) length).trans offered

end Sys2Proof.Machine
end

section
/-! # Status and settings -/

namespace Sys2Proof.Machine

open Sys2Proof

/-- CONFIG_SET in range is answered DONE with what its setting writes (R174). -/
theorem exec_configSet {v : SettingValue} {s u : State} (h : s.ready .ofc) (hrange : v.inRange = true)
    (written : (s.received .ofc).doConfigSet v = (u, .done .nothing)) :
    exec (.configSet .ofc (Request.configSet v).body) s = .next (u.answered .ofc .configSet (.done .nothing)) :=
  exec_answered (m := .ofc) (req := .configSet v) h hrange rfl (congrArg (fun r => (r.1, some r.2)) written)

/-- In LEVEL mode a line is asserted while notices wait and no window is open (R162). -/
theorem Desk.levelLine_eq (d : Desk) : d.levelLine = decide (d.notices ≠ [] ∧ d.window = none) := by
  rw [Desk.levelLine, Bool.decide_and]
  cases d.notices <;> cases d.window <;> rfl

/-- A change of an attention mode acts on the line at once (R163). -/
theorem State.setAttention_of_change {s : State} {m : Master} {mode : AttentionMode}
    (h : s.settings.attention.get m ≠ mode) :
    s.setAttention m mode =
      { s.setDesk m { s.desk m with
          line := decide (mode = AttentionMode.level ∧ (s.desk m).notices ≠ [] ∧ (s.desk m).window = none) } with
        settings := { s.settings with attention := s.settings.attention.set m mode } } := by
  rw [State.setAttention, if_neg h]
  cases mode with
  | level => simp [Desk.levelLine_eq]
  | pulse => simp

/-- Settles O11: each request is one equation of its owning block. -/
theorem statusAndSettingsAreReadAndWritten : Obligations.StatusAndSettingsAreReadAndWritten := by
  refine ⟨fun m s h => ?status, fun m mode on n s h => ⟨?strict, fun hn => ?humidity, fun hn => ?weight,
    fun hlo hhi => ?timeout, fun change => ?attention, ?get⟩, fun p plan k e s h => ⟨fun hrule => ?plan, ?link⟩⟩
  case status =>
    have port : Kind.statusGet.allowedOn m.port := by cases m <;> rfl
    exact exec_answered (req := .statusGet) h rfl port rfl
  case strict => exact exec_configSet h rfl rfl
  case humidity => exact exec_configSet h (decide_eq_true hn) rfl
  case weight => exact exec_configSet h (decide_eq_true hn) rfl
  case timeout => exact exec_configSet h (by simp [SettingValue.inRange, hlo, hhi]) rfl
  case attention =>
    exact exec_configSet h rfl (congrArg (fun t : State => (t, MasterReply.done .nothing))
      (State.setAttention_of_change (s := s.received .ofc) change))
  case get => exact exec_answered (m := .ofc) (req := .configGet) h rfl rfl rfl
  case plan => exact exec_answered (m := .ofc) (req := .planSet p plan) h hrule rfl rfl
  case link => exact exec_answered (m := .ofc) (req := .linkSet k e) h rfl rfl rfl

end Sys2Proof.Machine
end

section
/-! # Rollovers, check timeouts and the ends of windows -/

namespace Sys2Proof.Machine

open Sys2Proof

/-! ## A check item that has run its time (R148) -/

theorem CheckItem.timedOut_of_lt {it : CheckItem} (h : it.reissues < 2) :
    it.timedOut = { it with state := .pending, reissues := it.reissues + 1 } := by
  have below : it.reissues < Config.escalateCount := h.trans (by decide)
  have next : it.reissues + 1 < Config.escalateCount := Nat.succ_lt_succ h
  rw [CheckItem.timedOut, if_pos below, if_pos next]

theorem CheckItem.timedOut_of_ge {it : CheckItem} (h : it.reissues = 2 ∨ it.reissues = 3) :
    it.timedOut = { it with state := .pending, reissues := 3, priority := .urgent } := by
  rcases h with h | h <;> simp [CheckItem.timedOut, h, Config.escalateCount]

section
variable {s : State} {i : RecIdx} {k : CheckKind} {it : CheckItem} {before after : List CheckItem}
  (hchecks : s.checks = before ++ it :: after) (hrecord : it.record = i) (hkind : it.kind = k) (issued : it.isPending = false)
  (others : ∀ x ∈ before ++ after, x.serial ≠ it.serial ∧ ¬ (x.record = i ∧ x.kind = k))
include hchecks hrecord hkind issued others

/-- The one ISSUED item of its trailer and kind is the one that times out, and CHECK_ESCALATED is raised from the third
reissue on. -/
theorem State.timeoutItem_of_issued :
    s.timeoutItem i k =
      if 3 ≤ it.timedOut.reissues then
        { s with checks := before ++ it.timedOut :: after }.raiseFor i (.checkEscalated k it.origin it.timedOut.reissues)
      else { s with checks := before ++ it.timedOut :: after } := by
  have found : s.checks.find? (fun x => x.record = i && x.kind = k && !x.isPending) = some it := by
    rw [hchecks, List.find?_append, List.find?_eq_none.mpr fun x mem => ?_]
    · simp [hrecord, hkind, issued]
    · have differs := (others x (List.mem_append_left _ mem)).2
      simp only [Bool.and_eq_true, decide_eq_true_eq]
      exact fun is => differs is.1
  have written : s.checks.map (fun x => if x.serial = it.serial then x.timedOut else x) =
      before ++ it.timedOut :: after := by
    have unique := map_ite_of_unique (p := fun x : CheckItem => decide (x.serial = it.serial)) (f := CheckItem.timedOut)
      (decide_eq_true rfl) (before := before) (after := after) fun x mem => by simpa using (others x mem).1
    rw [hchecks, ← unique]
    simp only [decide_eq_true_eq]
  simp only [State.timeoutItem, found, written, hkind]
  rfl

/-- Below its third reissue an item is PENDING again, and nothing is raised. -/
theorem State.timeoutItem_of_few (few : it.reissues < 2) :
    s.timeoutItem i k =
      { s with checks := before ++ { it with state := .pending, reissues := it.reissues + 1 } :: after } := by
  have below : ¬ 3 ≤ it.reissues + 1 := by omega
  rw [State.timeoutItem_of_issued hchecks hrecord hkind issued others, CheckItem.timedOut_of_lt few, if_neg below]

/-- From its third reissue on an item is URGENT too, and CHECK_ESCALATED is raised about its trailer. -/
theorem State.timeoutItem_of_many {r : TrailerRecord} (many : it.reissues = 2 ∨ it.reissues = 3) (hr : s.record? i = some r) :
    s.timeoutItem i k =
      { s with checks := before ++ { it with state := .pending, reissues := 3, priority := .urgent } :: after }.raise
        ⟨.trailer r.tag r.bay i, .checkEscalated k it.origin 3⟩ := by
  have placed : State.record? { s with checks := before ++ it.timedOut :: after } i = some r := hr
  rw [State.timeoutItem_of_issued hchecks hrecord hkind issued others, State.raiseFor_of_some placed,
    CheckItem.timedOut_of_ge many, if_pos le_rfl]

end

/-! ## The end of a window (R162 to R164) -/

theorem State.closeWindow_of_open {s : State} {m : Master} {n : Nat} (h : (s.desk m).window = some n) :
    s.closeWindow m = s.setDesk m
      { s.desk m with
        window := none
        line := match s.settings.attention.get m with
          | .level => decide ((s.desk m).notices ≠ [])
          | .pulse => (s.desk m).line || decide ((s.desk m).notices ≠ []) } := by
  have waiting : (!(s.desk m).notices.isEmpty) = decide ((s.desk m).notices ≠ []) := by
    cases (s.desk m).notices <;> rfl
  simp only [State.closeWindow, h]
  cases s.settings.attention.get m <;> simp [Desk.drive, Desk.levelLine, waiting]

/-- Settles O49: each row takes its consequence, of the part with the others left due. -/
theorem roundConsequencesAct : Obligations.RoundConsequencesAct := by
  refine fun s u => ⟨?rollover, ?timeout, ?window⟩
  case rollover =>
    rintro hdue rfl
    exact exec_command_of_mem hdue
  case timeout =>
    intro i k it before after hdue hu hchecks hrecord hkind issued others
    have taken : exec (.checkTimeout i k) s = .next (u.timeoutItem i k) := by
      rw [hu]
      exact exec_command_of_mem hdue
    have checks : u.checks = before ++ it :: after := by
      rw [hu]
      exact hchecks
    refine ⟨fun few => ?_, fun r many hr => ?_⟩
    · rw [taken, State.timeoutItem_of_few checks hrecord hkind issued others few]
    · have placed : u.record? i = some r := by
        rw [hu]
        exact hr
      rw [taken, State.timeoutItem_of_many checks hrecord hkind issued others many placed]
  case window =>
    rintro m n hdue rfl hwindow
    exact (exec_command_of_mem hdue).trans (congrArg Host.Outcome.next (State.closeWindow_of_open hwindow))

end Sys2Proof.Machine
end

section
/-! # What a command can do -/

namespace Sys2Proof.Machine

open Sys2Proof

/-- What a command that is no move of the supply and no restart makes of the part: the taking of one consequence, or, once what
is due is settled, one event on a line, of the engine, of the Report Intake, of a pulse or of the clock. -/
inductive CommandWork (s : State) : State → Prop
  | frame (p : PortId) (kind : Byte) (body : List Byte) : CommandWork s (State.receiveFrame p kind body s.settle)
  | receiver (p : PortId) (r : Receiver) : CommandWork s (State.setReceiver p r s.settle)
  | settled : CommandWork s s.settle
  | reply (p : PortId) : CommandWork s (s.settle.whenInService (State.completeReply p))
  | search : CommandWork s (s.settle.whenInService State.completeSearch)
  | head : CommandWork s (s.settle.whenInService State.takeHead)
  | application : CommandWork s (s.settle.whenInService State.applyHead)
  | pulse (m : Master) : CommandWork s (s.settle.whenInService (State.endPulse m))
  | consequence (e : TickEvent) : CommandWork s (s.takeDue e)
  | tick : CommandWork s s.settle.secondTick

/-- What a restart or a move of the supply makes of a part with nothing due (Table 11-1, R179). -/
inductive SupplyMove (s : State) : State → Prop
  | restart (strap : Bool) : SupplyMove s (s.yardRestart strap)
  | applied : SupplyMove s s.applySupply
  | failed : SupplyMove s s.failMains
  | returned (strap : Bool) : SupplyMove s (s.returnMains strap)
  | lost : SupplyMove s s.loseSupply

/-- Every command is work of the part in its supply state, or a restart or move of the supply once what is due is settled. -/
theorem exec_cases {c : Instr} {s t : State} (run : exec c s = .next t) : CommandWork s t ∨ SupplyMove s.settle t := by
  cases c with
  | unitReport p body | poll p body | unknownKind p kind body | portBusy p kind body | zoneSet p body | zoneGet p body
  | baySet p body | place p body | move p body | release p body | recordGet p body | recordEdit p body | collect p body
  | scanChanged p body | sweepSeen p body | flushTags p body | clockSet p body | clockTrim p body | clockGet p body
  | planSet p body | planGet p body | linkSet p body | linkGet p body | configSet p body | configGet p body
  | defrostRequest p body | defrostCancel p body | holdSet p body | holdClear p body | fuelPost p body | checkAdd p body
  | checkClose p body | checkList p body | queueGet p body | feederGet p body | fetchNotice p body | holdNotices p body
  | releaseNotices p body | statusGet p body | yardRestart p body | setBudget p body | revoke p body | nextCheck p body =>
    cases run
    exact .inl (.frame p _ body)
  | frameCheckFail p | interbyteTimeout p | syncByte p =>
    cases run
    exact .inl (.receiver p _)
  | bodyLengthAbove120 p length =>
    cases run
    split
    · exact .inl (.receiver p _)
    · exact .inl .settled
  | replyComplete p =>
    cases run
    exact .inl (.reply p)
  | searchComplete =>
    cases run
    exact .inl .search
  | takeHead =>
    cases run
    exact .inl .head
  | reportApplication =>
    cases run
    exact .inl .application
  | pulseEnd m =>
    cases run
    exact .inl (.pulse m)
  | minuteRollover | unitSilent i | doorOpenLong i | abandoned i | timedOut i | defrostNotBeforeZero i | cmdUnconfirmed i
  | checkTimeout i k | suppressionWindowExpiry m =>
    cases run
    exact .inl (.consequence _)
  | secondTick =>
    cases run
    exact .inl .tick
  | restartAct strap =>
    cases run
    exact .inr (.restart strap)
  | supplyApplied =>
    cases run
    exact .inr .applied
  | mfailAsserted =>
    cases run
    exact .inr .failed
  | mfailReleased strap =>
    cases run
    exact .inr (.returned strap)
  | supplyLoss =>
    cases run
    exact .inr .lost

/-- A step idles, or does what the command at the front of the queue can do to the part with the queue's rest. -/
theorem step_cases {s t : State} (run : step s = .next t) :
    t = s ∨ ∃ rest, CommandWork { s with pending := rest } t ∨ SupplyMove (State.settle { s with pending := rest }) t := by
  unfold step at run
  split at run
  · cases run
    exact .inl rfl
  · next c rest _ => exact .inr ⟨rest, exec_cases run⟩

/-- Out of service, with nothing due, no command but a move of the supply does more than count the clock on (R178). -/
theorem CommandWork.outOfService {s t : State} (out : s.supply ≠ .inService) (hdue : s.due = []) (work : CommandWork s t) :
    ∃ c, t = { s with clock := c } := by
  have settled : s.settle = s := State.settle_of_nothing_due hdue
  have idle : ∀ f : State → State, s.settle.whenInService f = s := fun f => by
    rw [settled, State.whenInService, if_neg out]
  refine ⟨t.clock, ?_⟩
  cases work with
  | frame p kind body => rw [settled, receiveFrame_outOfService out]
  | receiver p r => rw [settled, State.setReceiver, if_neg out]
  | settled => rw [settled]
  | reply | search | head | application | pulse => rw [idle]
  | consequence e =>
    have unchanged : s.takeDue e = s := by rw [State.takeDue, hdue]; rfl
    rw [unchanged]
  | tick =>
    rw [settled, State.secondTick]
    split
    · next inService => exact absurd inService out
    · split <;> rfl
    · rfl

end Sys2Proof.Machine
end

section
/-! # The lines in LEVEL mode, and the supply state, under the work of the part -/

namespace Sys2Proof.Machine

open Sys2Proof

/-- A part that has come from another in the same supply state, with its LEVEL lines right where they were right. -/
def State.KeepsLines (s t : State) : Prop := t.supply = s.supply ∧ (s.linesOk → t.linesOk)

theorem PerMaster.get_set_self {α : Type} (p : PerMaster α) (m : Master) (a : α) : (p.set m a).get m = a := by
  cases m <;> rfl

theorem PerMaster.get_set_ne {α : Type} (p : PerMaster α) {m n : Master} (a : α) (h : m ≠ n) :
    (p.set m a).get n = p.get n := by
  cases m <;> cases n <;> simp [PerMaster.get, PerMaster.set] at h ⊢

/-- In LEVEL mode a drive of the line leaves it right (R162). -/
theorem Desk.drive_level (pulse : Bool) (d : Desk) : (d.drive .level pulse).line = (d.drive .level pulse).levelLine := rfl

namespace State.KeepsLines

theorem refl (s : State) : s.KeepsLines s := ⟨rfl, id⟩

variable {s t : State}

/-! ## Writes of what the lines are a matter of -/

section
variable (h : s.KeepsLines t)
include h

/-- A change of nothing that the lines are a matter of: the supply state, the attention modes and the desks (R162). -/
theorem of_same {u : State} (same : (u.supply, u.settings.attention, u.desks) = (t.supply, t.settings.attention, t.desks)
    := by rfl) : s.KeepsLines u := by
  obtain ⟨supply, attention, desks⟩ : u.supply = t.supply ∧ u.settings.attention = t.settings.attention ∧
      u.desks = t.desks := by simpa using same
  refine ⟨supply.trans h.1, fun ok inService m level => ?_⟩
  rw [State.desk, desks]
  exact h.2 ok (supply ▸ inService) m (attention ▸ level)

/-- A desk whose line is right in LEVEL mode where it was right before. -/
theorem setDesk (m : Master) {d : Desk}
    (right : t.settings.attention.get m = .level → (t.desk m).line = (t.desk m).levelLine → d.line = d.levelLine) :
    s.KeepsLines (t.setDesk m d) := by
  obtain ⟨supply, lines⟩ := h
  refine ⟨supply, fun ok inService n level => ?_⟩
  by_cases hmn : m = n
  · subst hmn
    rw [State.desk_setDesk_self]
    exact right level (lines ok inService m level)
  · rw [State.desk_setDesk_ne _ _ hmn]
    exact lines ok inService n level

theorem drive (m : Master) (pulse : Bool) (d : Desk) :
    s.KeepsLines (t.setDesk m (d.drive (t.settings.attention.get m) pulse)) :=
  h.setDesk m fun level _ => by rw [level, Desk.drive_level]

/-- A desk written with its attention mode, its line right in LEVEL mode. -/
theorem setMode (m : Master) (mode : AttentionMode) {d : Desk} (right : mode = .level → d.line = d.levelLine) :
    s.KeepsLines
      { t.setDesk m d with settings := { t.settings with attention := t.settings.attention.set m mode } } := by
  obtain ⟨supply, lines⟩ := h
  refine ⟨supply, fun ok inService n level => ?_⟩
  by_cases hmn : m = n
  · subst hmn
    have written : (t.setDesk m d).desk m = d := t.desk_setDesk_self m d
    exact written.symm ▸ right ((PerMaster.get_set_self _ m mode).symm.trans level)
  · have other : (t.setDesk m d).desk n = t.desk n := t.desk_setDesk_ne d hmn
    exact other.symm ▸ lines ok inService n ((PerMaster.get_set_ne _ mode hmn).symm.trans level)

/-- A change to LEVEL mode sets the line right (R163). -/
theorem setAttention (m : Master) (mode : AttentionMode) : s.KeepsLines (t.setAttention m mode) := by
  unfold State.setAttention
  split
  · exact h
  · exact h.setMode m mode fun level => by subst level; rfl

theorem endPulse (m : Master) : s.KeepsLines (t.endPulse m) := by
  unfold State.endPulse
  split
  · exact h
  · next pulse => exact h.setDesk m fun level _ => by simp [pulse] at level

theorem closeWindow (m : Master) : s.KeepsLines (t.closeWindow m) := by
  unfold State.closeWindow
  simp only
  split
  · exact h
  · exact h.drive m _ _

/-- A tick counts the windows and neither opens nor closes one (R164). -/
theorem countTick : s.KeepsLines t.countTick := by
  have supply : t.countTick.supply = t.supply := by rw [t.countTick_frame]
  have settings : t.countTick.settings = t.settings := by rw [t.countTick_frame]
  refine ⟨supply.trans h.1, fun ok inService m level => ?_⟩
  rw [supply] at inService
  rw [settings] at level
  rw [State.desk_countTick, Desk.tick, Desk.levelLine, Option.isNone_map]
  exact h.2 ok inService m level

/-! ## Events -/

/-- A notice that is taken drives the line, and one that is dropped leaves it (R159, R162). -/
theorem offerTo (e : Event) (m : Master) : s.KeepsLines (t.offerTo e m) := by
  unfold State.offerTo Desk.offer
  split
  · split
    · exact h.drive m _ _
    · exact h.setDesk m fun _ right => right
  · exact h

theorem notify (e : Event) : s.KeepsLines (t.notify e) := ((h.offerTo e .ofc).offerTo e .cab).offerTo e .pat

theorem tryAdd (q : CheckAsk) : s.KeepsLines (t.tryAdd q).1 := by
  unfold State.tryAdd
  split
  · exact h.of_same
  · split
    · exact h.of_same
    · exact h

theorem raiseListFull (e : Event) : s.KeepsLines (t.raiseListFull e) := by
  unfold State.raiseListFull
  simp only
  split
  · exact h.notify e
  · exact (h.notify e).tryAdd _

theorem askItem (q : CheckAsk) : s.KeepsLines (t.askItem q).1 := by
  have tried := h.tryAdd q
  unfold State.askItem
  split <;> rename_i heq <;> rw [heq] at tried
  · exact tried.raiseListFull _
  · exact tried

theorem raise (e : Event) : s.KeepsLines (t.raise e) := by
  unfold State.raise
  split
  · exact h.raiseListFull e
  · simp only
    split
    · exact h.notify e
    · exact (h.notify e).askItem _

theorem updRecord (i : RecIdx) (f : TrailerRecord → TrailerRecord) : s.KeepsLines (t.updRecord i f) := by
  unfold State.updRecord
  split
  · exact h
  · exact h.of_same

omit h in
/-- The lines are no matter of the records and the Defrost Scheduler, and events keep them. -/
theorem keptByWork (s : State) : KeptByWork s.KeepsLines where
  update i f _ _ h := h.updRecord i f
  tables _ _ _ _ _ _ _ h := h.of_same
  raise e _ h := h.raise e

theorem endDefrost_grantPass (i : RecIdx) (k : EndKind) : s.KeepsLines (t.endDefrost i k).grantPass :=
  (keptByWork s).grantPass ((keptByWork s).endDefrost h i k)

/-! ## Consequences of a tick -/

theorem timeoutItem (i : RecIdx) (k : CheckKind) : s.KeepsLines (t.timeoutItem i k) := by
  unfold State.timeoutItem
  split
  · exact h
  · simp only
    split
    · exact (h.of_same (u := { t with checks := _ })).raise _
    · exact h.of_same

theorem roundBay (p : Fin 8) (plan : Plan) (b : BayAddr) : s.KeepsLines (t.roundBay p plan b) := by
  unfold State.roundBay
  split
  · exact h
  · split
    · exact h
    · split
      · exact h.askItem _
      · exact h

theorem testPlan (p : Fin 8) : s.KeepsLines (t.testPlan p) := by
  unfold State.testPlan
  simp only
  split
  · exact List.foldlRecOn (motive := s.KeepsLines) _ _ (h.raise _) fun _ h b _ => h.roundBay p _ b
  · exact h

theorem testPlans : s.KeepsLines t.testPlans := by
  unfold State.testPlans
  split
  · exact List.foldlRecOn (motive := s.KeepsLines) _ _ h fun _ h p _ => h.testPlan p
  · exact h

theorem take (e : TickEvent) : s.KeepsLines (t.take e) := by
  have work := keptByWork s
  cases e with
  | rollover => exact h.testPlans
  | silent i => exact (h.updRecord i _).raise _
  | doorLong i =>
    show s.KeepsLines (t.openLong i)
    unfold State.openLong
    split
    · exact h
    · exact (h.updRecord i _).raise _
  | abandon i => exact h.endDefrost_grantPass i _
  | timeOut i => exact h.endDefrost_grantPass i _
  | waitOver i => exact work.grantPass (h.updRecord i _)
  | unconfirmed i => exact work.timeoutCommand h i
  | checkTimeout i k => exact h.timeoutItem i k
  | windowOver m => exact h.closeWindow m

theorem takeAll (l : List TickEvent) : s.KeepsLines (State.takeAll l t) := by
  induction l generalizing t with
  | nil => exact h.of_same
  | cons e rest ih => exact ih ((h.of_same (u := { t with due := rest })).take e)

theorem settle : s.KeepsLines t.settle := h.takeAll t.due

theorem takeDue (e : TickEvent) : s.KeepsLines (t.takeDue e) := by
  unfold State.takeDue
  split
  · exact (h.of_same (u := { t with due := t.due.erase e })).take e
  · exact h

theorem secondTick : s.KeepsLines t.secondTick := by
  unfold State.secondTick
  split
  · exact h.countTick
  · split
    · exact h
    · exact h.of_same
  · exact h

end

end State.KeepsLines

end Sys2Proof.Machine
end

section
/-! # The lines in LEVEL mode, and the supply state, under requests, reports and searches -/

namespace Sys2Proof.Machine

open Sys2Proof

namespace State.KeepsLines

variable {s t : State} (h : s.KeepsLines t)
include h

/-! ## Requests on a resolved trailer -/

theorem forgetCommands (i : RecIdx) : s.KeepsLines (t.forgetCommands i) :=
  (h.updRecord i fun r => { r with slot := .empty }).of_same

theorem forgetChecks (tag : Tag) : s.KeepsLines (t.forgetChecks tag) := h.of_same

theorem freed (i : RecIdx) (b : BayAddr) (tag : Tag) : s.KeepsLines (t.freed i b tag) := h.of_same

theorem doRelease (i : RecIdx) (tag : Tag) : s.KeepsLines (t.doRelease i tag).1 := by
  have scheduled : s.KeepsLines (t.releaseDefrost i) := by
    unfold State.releaseDefrost
    split
    · exact h.endDefrost_grantPass i _
    · exact h.of_same
  cases hr : t.record? i with
  | none => rwa [State.doRelease_of_none hr]
  | some r =>
    rw [State.doRelease_of_some hr]
    exact ((scheduled.forgetCommands i).forgetChecks tag).freed i r.bay tag

theorem doMove (i : RecIdx) (tag : Tag) (b : BayAddr) : s.KeepsLines (t.doMove i tag b).1 := by
  rcases t.doMove_cases i tag b with same | ⟨r, -, -, moved⟩
  · rwa [same]
  · rw [moved]
    exact h.of_same

theorem doDefrostRequest (m : Master) (i : RecIdx) : s.KeepsLines (t.doDefrostRequest m i).1 := by
  unfold State.doDefrostRequest
  split
  · exact h
  · split
    · exact h
    · have unlatched := h.updRecord i fun r => { r with cancelLatch := false }
      refine (keptByWork s).grantPass ?_
      split
      · exact ((keptByWork s).joinQueue unlatched i _ _ _).raise _
      · exact unlatched.of_same

theorem doDefrostCancel (i : RecIdx) : s.KeepsLines (t.doDefrostCancel i).1 := by
  unfold State.doDefrostCancel
  simp only
  split
  · exact ((keptByWork s).leaveQueue h i).updRecord i _
  · split
    · exact h.endDefrost_grantPass i _
    · exact h.updRecord i _
  · exact h

theorem doHoldClear (i : RecIdx) : s.KeepsLines (t.doHoldClear i).1 := by
  have removed := (keptByWork s).removeActivity h i .serviceHold
  unfold State.doHoldClear
  simp only
  split
  · exact (keptByWork s).grantPass ((keptByWork s).evaluateDemand removed i)
  · exact removed

theorem doCheckAdd (i : RecIdx) (k : CheckKind) (p : Priority) : s.KeepsLines (t.doCheckAdd i k p).1 := by
  unfold State.doCheckAdd
  split
  · exact h
  · next r _ =>
    have asked := h.askItem
      { tag := r.tag, record := i, kind := k, priority := p, origin := .manual, createdAt := t.now }
    split <;> next heq => rw [heq] at asked; exact asked

theorem closeItem (m : Master) (i : RecIdx) (tag : Tag) (result : CloseResult) :
    s.KeepsLines (t.closeItem m i tag result) := by
  have closed : s.KeepsLines { t with checks := t.checks.filter fun it => !it.isFor tag result.kind } := h.of_same
  cases result with
  | secure | ajar => exact closed
  | damaged => exact closed.raise _
  | fuel level refuelled => exact (keptByWork s).postFuel closed i level refuelled

theorem actOn (m : Master) (req : Request) (res : Resolved) : s.KeepsLines (t.actOn m req res).1 := by
  cases req with
  | recordGet n =>
    show s.KeepsLines (t.doRecordGet m res.record).1
    unfold State.doRecordGet
    split <;> exact h
  | collect n =>
    show s.KeepsLines (t.doCollect res.record).1
    unfold State.doCollect
    split
    · exact h
    · exact h.of_same
  | recordEdit n load override =>
    show s.KeepsLines (t.doRecordEdit res.record load override).1
    unfold State.doRecordEdit
    split
    · exact h
    · split
      · exact h
      · exact h.updRecord res.record _
  | move tag b => exact h.doMove res.record tag b
  | release tag => exact h.doRelease res.record tag
  | defrostRequest n => exact h.doDefrostRequest m res.record
  | defrostCancel n => exact h.doDefrostCancel res.record
  | holdSet n =>
    show s.KeepsLines (t.doHoldSet m res.record).1
    unfold State.doHoldSet
    split
    · exact h
    · exact (keptByWork s).pushActivity h res.record _ _
  | holdClear n =>
    simp only [State.actOn]
    split
    · exact h.doHoldClear res.record
    · exact h
  | fuelPost n level refuelled => exact (keptByWork s).postFuel h res.record level refuelled
  | checkAdd n k p => exact h.doCheckAdd res.record k p
  | checkClose tag result =>
    simp only [State.actOn]
    split
    · exact h.closeItem m res.record tag result
    · exact h
  | revoke n deferral =>
    simp only [State.actOn]
    split
    · exact h.endDefrost_grantPass res.record _
    · exact h
  | _ => exact h

theorem judge (m : Master) (req : Request) (n : Subject) (res : Resolved) : s.KeepsLines (t.judge m req n res).1 := by
  unfold State.judge
  split
  · exact h.raise _
  · split
    · exact h
    · exact h.actOn m req res

/-! ## Requests that name no placed trailer -/

theorem doPlace (tag : Tag) (b : BayAddr) (source : Option Source) (load : Option Nat) :
    s.KeepsLines (t.doPlace tag b source load).1 := by
  unfold State.doPlace
  split
  · exact h
  · split
    · exact h
    · exact h.of_same

theorem doSetBudget (f : FeederNo) (value : Nat) : s.KeepsLines (t.doSetBudget f value).1 := by
  have work := keptByWork s
  have set : ∀ x, s.KeepsLines (t.setFeeder f x) := fun _ => h.of_same
  unfold State.doSetBudget
  simp only
  split
  · exact work.grantPass (set _)
  · split
    · exact work.grantPass (work.cutGrants (set _) f _)
    · exact set _

theorem doClockTrim : s.KeepsLines t.doClockTrim.1 := by
  unfold State.doClockTrim
  split
  · split
    · exact (h.of_same (u := { t with clock := t.clock.nextMinute })).testPlans
    · exact h.of_same
  · exact h

theorem doFetch (m : Master) : s.KeepsLines (t.doFetch m).1 := by
  unfold State.doFetch
  simp only
  split
  · exact h
  · exact h.drive m _ _

theorem actPlain (m : Master) (req : Request) : s.KeepsLines (t.actPlain m req).1 := by
  cases req with
  | zoneSet z e =>
    show s.KeepsLines (t.doZoneSet z e).1
    rw [State.doZoneSet_eq]
    split
    · exact h
    · exact h.of_same
  | sweepSeen => exact h.of_same (by simp only [State.actPlain, State.doSweepSeen])
  | clockTrim => exact h.doClockTrim
  | configSet v =>
    cases v with
    | attention n mode => exact h.setAttention n mode
    | _ => exact h.of_same
  | fetchNotice => exact h.doFetch m
  | holdNotices => exact h.drive m _ _
  | releaseNotices => exact h.closeWindow m
  | setBudget f value => exact h.doSetBudget f value
  | _ => exact h.of_same

/-! ## Lookups, and requests that wait for them -/

theorem lookup (w : Waiter) (tag : Tag) : s.KeepsLines (t.lookup w tag).1 := by
  obtain ⟨c, e, l, looked⟩ := t.lookup_frame w tag
  rw [looked]
  exact h.of_same

theorem goOn (m : Master) (req : Request) (a : Answer) : s.KeepsLines (t.goOn m req a).1 := by
  unfold State.goOn
  split
  · exact h.of_same
  · split
    · exact h
    · split
      · exact h.judge m req _ _
      · exact h
  · split
    · exact h.doPlace _ _ _ _
    · split <;> exact h

theorem lookupFor (m : Master) (req : Request) (tag : Tag) : s.KeepsLines (t.lookupFor m req tag).1 :=
  (h.lookup (.master m) tag).goOn m req _

theorem offerItems (m : Master) (n : Nat) (considered : List Nat) : s.KeepsLines (t.offerItems m n considered).1 := by
  induction n generalizing considered t with
  | zero => exact h
  | succ n ih =>
    unfold State.offerItems
    split
    · exact h
    · next it _ =>
      have looked := h.lookup (.master m) it.tag
      split <;> rename_i heq <;> rw [heq] at looked
      · split
        · exact looked.of_same
        · exact ih looked _
      · exact ih looked _
      · exact looked.of_same

theorem resume (m : Master) (held : Held) (a : Answer) : s.KeepsLines (t.resume m held a).1 := by
  cases held with
  | request req => exact h.goOn m req a
  | nextCheck considered item =>
    show s.KeepsLines (t.resumeNextCheck m considered item a).1
    unfold State.resumeNextCheck
    simp only
    split
    · split
      · exact h.of_same
      · exact h.offerItems m _ _
    · exact h.offerItems m _ _

theorem takeRequest (m : Master) (req : Request) : s.KeepsLines (t.takeRequest m req).1 := by
  unfold State.takeRequest
  split
  · unfold State.startNextCheck
    split
    · exact h
    · exact h.offerItems m _ _
  · split
    · exact h.lookupFor m _ _
    · exact h
  · split
    · exact h.actPlain m _
    · exact h.lookupFor m _ _
    · split
      · exact h
      · exact h.judge m _ _ _

omit h in
theorem answer {r : State × Option MasterReply} (h : s.KeepsLines r.1) (m : Master) (kind : Byte) :
    s.KeepsLines (State.answer m kind r) := by
  unfold State.answer
  split
  · exact h.of_same
  · exact h

/-! ## The Report Intake -/

theorem dropHead : s.KeepsLines t.dropHead := h.of_same

theorem discardUnknown (u : UnitReport) : s.KeepsLines (t.discardUnknown u) := (h.raise _).dropHead

theorem answerIntake (a : Answer) : s.KeepsLines (t.answerIntake a) := by
  unfold State.answerIntake
  split
  · exact h.of_same
  · exact h.discardUnknown _
  · exact h.of_same
  · exact h.of_same

theorem takeHead : s.KeepsLines t.takeHead := by
  unfold State.takeHead
  split
  · split
    · exact h.dropHead
    · exact (h.lookup _ _).answerIntake _
  · exact h

theorem applyHead : s.KeepsLines t.applyHead := by
  unfold State.applyHead
  split
  · next i u rest _ _ =>
    split
    · exact h.discardUnknown u
    · split
      · exact h.discardUnknown u
      · split
        · exact h.dropHead
        · split
          · exact h.dropHead
          · exact ((keptByWork s).applyReport i (h.updRecord i _)).dropHead
  · exact h

theorem arrive (u : UnitReport) : s.KeepsLines (t.arrive u).1 := by
  unfold State.arrive
  split
  · exact h.of_same
  · exact h.raise _

/-! ## Frames and searches -/

theorem takeUnit (k : Kind) (body : List Byte) : s.KeepsLines (t.takeUnit k body) := by
  unfold State.takeUnit
  split
  · exact ((keptByWork s).sendHead (h.arrive _)).of_same
  · exact ((keptByWork s).sendHead h).of_same

theorem judgeFrame (p : PortId) (kind : Byte) (body : List Byte) : s.KeepsLines (t.judgeFrame p kind body) := by
  have refused : ∀ master unit, s.KeepsLines (t.refuse p kind master unit) := fun _ _ => h.of_same
  unfold State.judgeFrame
  split
  · exact refused _ _
  · split
    · exact refused _ _
    · split
      · exact refused _ _
      · split
        · exact h.takeUnit _ body
        · split
          · exact refused _ _
          · exact (h.takeRequest _ _).answer _ kind

theorem receiveFrame (p : PortId) (kind : Byte) (body : List Byte) : s.KeepsLines (State.receiveFrame p kind body t) := by
  by_cases inService : t.supply = .inService
  · have received : s.KeepsLines (t.received p) := h.of_same
    rw [receiveFrame_inService inService]
    split
    · exact received.judgeFrame p kind body
    · unfold State.oweBusy
      split
      · exact received
      · exact received
      · exact received.of_same
  · rwa [receiveFrame_outOfService inService]

theorem setReceiver (p : PortId) (r : Receiver) : s.KeepsLines (State.setReceiver p r t) := by
  unfold State.setReceiver
  split
  · exact h.of_same
  · exact h

theorem completeReply (p : PortId) : s.KeepsLines (t.completeReply p) := by
  unfold State.completeReply
  simp only
  split
  · exact h
  · split
    · split <;> exact h.of_same
    · exact h.of_same
    all_goals exact h

theorem deliver (w : Waiter) (a : Answer) : s.KeepsLines (t.deliver w a) := by
  unfold State.deliver
  split
  · exact h.answerIntake a
  · next m =>
    split
    · exact (h.resume m _ a).answer m _
    all_goals exact h

theorem completeSearch : s.KeepsLines t.completeSearch := by
  unfold State.completeSearch
  split
  · exact h
  · next q _ =>
    obtain ⟨c, result⟩ := State.searchResult_frame q.tag t
    have searched : s.KeepsLines (t.searchResult q.tag).1 := by
      rw [result]
      exact h.of_same
    exact (searched.deliver q.waiter _).of_same

theorem whenInService {f : State → State} (hf : s.KeepsLines (f t)) : s.KeepsLines (t.whenInService f) := by
  unfold State.whenInService
  split
  · exact hf
  · exact h

end State.KeepsLines

/-- Work of the part leaves the supply state, and the LEVEL lines right. -/
theorem CommandWork.keepsLines {s t : State} (work : CommandWork s t) : s.KeepsLines t := by
  have settled := (State.KeepsLines.refl s).settle
  cases work with
  | frame p kind body => exact settled.receiveFrame p kind body
  | receiver p r => exact settled.setReceiver p r
  | settled => exact settled
  | reply p => exact settled.whenInService (settled.completeReply p)
  | search => exact settled.whenInService settled.completeSearch
  | head => exact settled.whenInService settled.takeHead
  | application => exact settled.whenInService settled.applyHead
  | pulse m => exact settled.whenInService (settled.endPulse m)
  | consequence e => exact (State.KeepsLines.refl s).takeDue e
  | tick => exact settled.secondTick

/-! ## Restarts and moves of the supply -/

/-- Lines are no matter out of service. -/
theorem State.linesOk_of_outOfService {s : State} (out : s.supply ≠ .inService) : s.linesOk :=
  fun inService => absurd inService out

/-- After each restart no notice waits, no window is open and no line is asserted (Table 9-3). -/
theorem State.linesOk_of_cold {s : State} (cold : s.desks = .all Desk.cold) : s.linesOk := by
  intro _ m _
  rw [State.desk, cold]
  cases m <;> rfl

theorem SupplyMove.linesOk {s t : State} (ok : s.linesOk) (move : SupplyMove s t) : t.linesOk := by
  cases move with
  | restart strap =>
    unfold State.yardRestart
    split
    · exact State.linesOk_of_cold rfl
    · exact ok
  | applied =>
    unfold State.applySupply
    split
    · exact State.linesOk_of_outOfService nofun
    · exact ok
    · exact ok
  | failed =>
    unfold State.failMains
    split
    · exact State.linesOk_of_outOfService nofun
    · exact ok
    · exact ok
  | returned strap =>
    unfold State.returnMains
    split
    · split <;> exact State.linesOk_of_cold rfl
    · exact ok
    · exact ok
  | lost => exact State.linesOk_of_outOfService nofun

/-! ## Silence out of service -/

theorem State.quietOut_of_inService {s : State} (inService : s.supply = .inService) : s.quietOut :=
  fun out => absurd inService out

theorem State.quietOut.settle {s : State} (quiet : s.quietOut) : s.settle.quietOut := by
  by_cases inService : s.supply = .inService
  · exact State.quietOut_of_inService ((State.KeepsLines.refl s).settle.1.trans inService)
  · obtain ⟨-, -, -, -, -, hdue, -⟩ := quiet inService
    rwa [State.settle_of_nothing_due hdue]

theorem CommandWork.quietOut {s t : State} (quiet : s.quietOut) (work : CommandWork s t) : t.quietOut := by
  by_cases inService : s.supply = .inService
  · exact State.quietOut_of_inService (work.keepsLines.1.trans inService)
  · obtain ⟨-, -, -, -, -, hdue, -⟩ := quiet inService
    obtain ⟨c, rfl⟩ := work.outOfService inService hdue
    exact quiet

/-- Each way out of service leaves the part silent, and each way back ends the silence (R177, R178). -/
theorem SupplyMove.quietOut {s t : State} (quiet : s.quietOut) (hdue : s.due = []) (move : SupplyMove s t) :
    t.quietOut := by
  cases move with
  | restart strap =>
    unfold State.yardRestart
    split
    · exact State.quietOut_of_inService rfl
    · exact quiet
  | applied =>
    unfold State.applySupply
    split
    · next unpowered => exact fun _ => quiet (by simp [unpowered])
    · exact quiet
    · exact quiet
  | failed =>
    unfold State.failMains
    split
    · exact fun _ => ⟨rfl, rfl, rfl, rfl, rfl, hdue, fun m => congrArg Desk.line (s.desk_releaseLines m)⟩
    · exact quiet
    · exact quiet
  | returned strap =>
    unfold State.returnMains
    split
    · split <;> exact State.quietOut_of_inService rfl
    · exact quiet
    · exact quiet
  | lost => exact fun _ => ⟨rfl, rfl, rfl, rfl, rfl, rfl, fun m => by cases m <;> rfl⟩

/-- Settles O60, by what the command at the front of the queue can do. -/
theorem linesAndSilenceAreKept : Obligations.LinesAndSilenceAreKept := by
  refine ⟨fun s t ok run => ?lines, fun s t quiet run => ?silence⟩
  case lines =>
    obtain rfl | ⟨rest, work | move⟩ := step_cases run
    · exact ok
    · exact work.keepsLines.2 ok
    · exact move.linesOk ((State.KeepsLines.refl { s with pending := rest }).settle.2 ok)
  case silence =>
    obtain rfl | ⟨rest, work | move⟩ := step_cases run
    · exact quiet
    · exact work.quietOut (s := { s with pending := rest }) quiet
    · exact move.quietOut (State.quietOut.settle (s := { s with pending := rest }) quiet) (State.settle_due _)

end Sys2Proof.Machine
end

section
/-! # FETCH_NOTICE, the windows, and the end of a pulse -/

namespace Sys2Proof.Machine

open Sys2Proof

/-! ## Lines driven -/

/-- A drive of the line, by mode (R162, R163). -/
theorem Desk.drive_eq (mode : AttentionMode) (pulse : Bool) (d : Desk) :
    d.drive mode pulse =
      { d with
        line := match mode with
          | .level => decide (d.notices ≠ [] ∧ d.window = none)
          | .pulse => d.line || pulse } := by
  cases mode with
  | level => rw [Desk.drive, Desk.levelLine_eq]
  | pulse => rfl

/-! ## Requests -/

section
variable {s : State} {m : Master}

theorem State.doFetch_of_nil (h : (s.desk m).notices = []) :
    s.doFetch m = (s, .empty (.notice none 0 (s.desk m).lost)) := by
  simp only [State.doFetch, h]

theorem State.doFetch_of_cons {n : Notice} {rest : List Notice} (h : (s.desk m).notices = n :: rest) :
    s.doFetch m =
      (s.setDesk m
        { s.desk m with
          notices := rest
          line := match s.settings.attention.get m with
            | .level => decide (rest ≠ [] ∧ (s.desk m).window = none)
            | .pulse => (s.desk m).line },
        .done (.notice (some (s.fetched n)) rest.length (s.desk m).lost)) := by
  simp only [State.doFetch, h, Desk.drive_eq, Bool.or_false]

theorem State.doHoldNotices_eq (s : State) (m : Master) :
    s.doHoldNotices m =
      (s.setDesk m
        { s.desk m with
          window := some 0
          line := match s.settings.attention.get m with
            | .level => false
            | .pulse => (s.desk m).line },
        .done .nothing) := by
  simp [State.doHoldNotices, Desk.drive_eq]

/-- With no window open RELEASE_NOTICES changes nothing (R164). -/
theorem State.closeWindow_of_none (h : (s.desk m).window = none) : s.closeWindow m = s := by
  simp only [State.closeWindow, h]

theorem exec_pulseEnd (hsupply : s.supply = .inService) (hdue : s.due = []) (pulse : s.settings.attention.get m = .pulse) :
    exec (.pulseEnd m) s = .next (s.setDesk m { s.desk m with line := false }) := by
  refine congrArg Host.Outcome.next ((State.settle_whenInService hsupply hdue _).trans ?_)
  rw [State.endPulse, pulse]

/-! ## The still-present field (R161) -/

section
variable {n : Notice} {i : RecIdx} (hn : n.record = some i)
include hn

/-- The record of the notice is free, or another trailer has been placed in it. -/
theorem State.stillPresent_gone (h : ∀ r, s.record? i = some r → some r.tag ≠ n.tag) : s.stillPresent n = some .gone := by
  rw [State.stillPresent, hn, Option.map_some]
  cases hr : s.record? i with
  | none => rfl
  | some r => exact congrArg some (if_pos (h r hr))

/-- The trailer of the notice stands, and the condition of the notice's kind is read of its record now. -/
theorem State.stillPresent_of_placed {r : TrailerRecord} (hr : s.record? i = some r) (tag : some r.tag = n.tag) :
    s.stillPresent n = some (if s.conditionHolds n.detail.kind i r then .present else .cleared) := by
  rw [State.stillPresent, hn, Option.map_some, hr]
  exact congrArg some (if_neg (not_not.mpr tag))

end

/-- A queue entry is pinned from four passes on (R93). -/
theorem State.pinned_iff (s : State) (i : RecIdx) : s.pinned i ↔ ∃ e ∈ s.queue, e.record = i ∧ 4 ≤ e.passCount := by
  simp only [State.pinned, List.any_eq_true, Bool.and_eq_true, decide_eq_true_eq]
  rfl

end

/-- Settles O45: the fetch, the condition a fetched notice is given with, the windows and the end of a pulse, each one equation
of the Event Link and Notice Unit. -/
theorem noticesAreFetchedAndHeld : Obligations.NoticesAreFetchedAndHeld := by
  refine ⟨fun m n rest s h => ?fetch, fun n i s hn => ⟨State.stillPresent_gone hn, fun r hr tag => ?condition⟩,
    fun m s => ⟨fun h => ?windows, exec_pulseEnd⟩⟩
  case fetch =>
    have port : Kind.fetchNotice.allowedOn m.port := by cases m <;> rfl
    have fetch : ∀ {u : State} {reply : MasterReply}, (s.received m.port).doFetch m = (u, reply) →
        exec (.fetchNotice m.port []) s = .next (u.answered m.port .fetchNotice reply) := fun fetched =>
      exec_answered (req := .fetchNotice) h rfl port (congrArg (fun r => (r.1, some r.2)) fetched)
    exact ⟨fun empty => fetch (State.doFetch_of_nil empty), fun waiting => fetch (State.doFetch_of_cons waiting)⟩
  case condition =>
    rw [State.stillPresent_of_placed hn hr tag]
    refine ⟨fun kind => ?_, fun kind => ?_, fun kind => ?_, fun kind pinned => ?_, fun kind few => ?_⟩ <;> rw [kind]
    · rfl
    · rfl
    · simp [State.conditionHolds]
    · exact congrArg some (if_pos ((s.pinned_iff i).mpr pinned))
    · refine congrArg some (if_neg fun pinned => ?_)
      obtain ⟨e, he, record, many⟩ := (s.pinned_iff i).mp pinned
      exact absurd many (not_le.mpr (few e he record))
  case windows =>
    have hold : Kind.holdNotices.allowedOn m.port := by cases m <;> rfl
    have release : Kind.releaseNotices.allowedOn m.port := by cases m <;> rfl
    have closed : ∀ {u : State}, (s.received m.port).closeWindow m = u →
        exec (.releaseNotices m.port []) s = .next (u.answered m.port .releaseNotices (.done .nothing)) := fun closes =>
      exec_answered (req := .releaseNotices) h rfl release
        (congrArg (fun u => (u, some (MasterReply.done .nothing))) closes)
    exact ⟨exec_answered (req := .holdNotices) h rfl hold
        (congrArg (fun r => (r.1, some r.2)) (State.doHoldNotices_eq (s.received m.port) m)),
      fun shut => closed (State.closeWindow_of_none shut), fun n opened => closed (State.closeWindow_of_open opened)⟩

end Sys2Proof.Machine
end

section
/-! # Request bodies, and frames byte by byte -/

namespace Sys2Proof.Machine

open Sys2Proof

/-- Settles O3: the length of each body, and the reading of each field where its rule admits the value. -/
theorem requestReadsBack : Obligations.RequestReadsBack := fun req h => ⟨req.length_body, Request.parse_body h⟩

/-! ## The receiver (R166) -/

theorem Line.bytes_cons (p : PortId) (l : Line) (b : Byte) (rest : List Byte) :
    Line.bytes p l (b :: rest) =
      ((Line.bytes p (l.byte p b).1 rest).1, (l.byte p b).2.toList ++ (Line.bytes p (l.byte p b).1 rest).2) := rfl

theorem Line.byte_sync (p : PortId) : Line.byte p .hunting syncValue = (.sizing, some (.syncByte p)) := rfl

/-- A length byte of at most 120 is followed by that many body bytes, the kind byte and the check's two. -/
theorem Line.byte_length {n : Nat} (h : n ≤ 120) (p : PortId) :
    Line.byte p .sizing (byteOf n) = (.collecting (byteOf n) [] (n + 3), none) := by
  rw [Line.byte, byteOf_toNat (by omega)]
  exact if_neg (not_lt.mpr h)

/-- The bytes that a line still needs complete its frame, and the receiver is HUNTING again. -/
theorem Line.bytes_collecting (p : PortId) (length b : Byte) (rest got : List Byte) :
    Line.bytes p (.collecting length got (rest.length + 1)) (b :: rest) =
      (.hunting, (completeFrame p length (got.reverse ++ b :: rest)).toList) := by
  induction rest generalizing b got with
  | nil => simp [Line.bytes, Line.byte]
  | cons c rest ih =>
    have more : Line.byte p (.collecting length got ((c :: rest).length + 1)) b =
        (.collecting length (b :: got) (rest.length + 1), none) := by
      simp [Line.byte]
    rw [Line.bytes_cons, more, ih, List.reverse_cons, List.append_assoc]
    rfl

/-! ## Frames (R167) -/

/-- A frame whose length byte is the length of its body is taken by its check. -/
theorem completeFrame_eq {length : Byte} {body : List Byte} (h : length.toNat = body.length) (p : PortId)
    (kind c1 c0 : Byte) :
    completeFrame p length (kind :: (body ++ [c1, c0])) =
      some (if crc16 (length :: kind :: body) = (c1 ++ c0 : BitVec 16) then frameCommand p kind body
        else .frameCheckFail p) := by
  simp only [completeFrame, h, List.take_left, List.drop_left]

/-- What a HUNTING receiver makes of the bytes of a frame, by its check. -/
theorem Line.bytes_frame {body : List Byte} (h : body.length ≤ 120) (p : PortId) (kind c1 c0 : Byte) :
    Line.bytes p .hunting (syncValue :: byteOf body.length :: kind :: (body ++ [c1, c0])) =
      (.hunting, [.syncByte p, if crc16 (byteOf body.length :: kind :: body) = (c1 ++ c0 : BitVec 16)
        then frameCommand p kind body else .frameCheckFail p]) := by
  have need : body.length + 3 = (body ++ [c1, c0]).length + 1 := by simp
  rw [Line.bytes_cons, Line.byte_sync, Line.bytes_cons, Line.byte_length h, need, Line.bytes_collecting, List.reverse_nil,
    List.nil_append, completeFrame_eq (byteOf_toNat (by omega))]
  rfl

/-- The two bytes of a check, high byte first, make up the check. -/
theorem extractLsb'_bytes (c : BitVec 16) : (c.extractLsb' 8 8 ++ c.extractLsb' 0 8 : BitVec 16) = c := by
  rw [BitVec.extractLsb'_append_extractLsb'_eq_extractLsb' (start₂ := 8) (start₁ := 0) (len₁ := 8) rfl]
  exact BitVec.extractLsb'_eq_self

/-- Settles O4: the bytes of a frame one by one, then its check against the check of its bytes. -/
theorem frameIsReceived : Obligations.FrameIsReceived := by
  refine ⟨fun p kind body h => ?_, fun p kind c1 c0 body h wrong => ?_⟩
  · refine (Line.bytes_frame h p kind _ _).trans ?_
    rw [if_pos (extractLsb'_bytes _).symm]
  · refine (Line.bytes_frame h p kind c1 c0).trans ?_
    rw [if_neg wrong]

end Sys2Proof.Machine
end

section
/-! # Receivers, and the last byte of a reply -/

namespace Sys2Proof.Machine

open Sys2Proof

theorem State.setReceiver_inService {s : State} (h : s.supply = .inService) (p : PortId) (r : Receiver) :
    s.setReceiver p r = s.setPort p { s.port p with receiver := r } := if_pos h

section
variable {s : State} {p : PortId}

/-! ## The reply that leaves (R168 to R170) -/

theorem exec_replyComplete (hsupply : s.supply = .inService) (hdue : s.due = []) (p : PortId) :
    exec (.replyComplete p) s = .next (s.completeReply p) :=
  congrArg Host.Outcome.next (State.settle_whenInService hsupply hdue _)

/-- A reply other than the DONE to YARD_RESTART frees its port, or begins the PORT_BUSY it owes. -/
theorem State.completeReply_of_replying (notDue : s.restartDue = false) {r : Reply}
    (replying : (s.port p).activity = .replying r) (ordinary : r.isRestart = false) :
    s.completeReply p = s.setPort p (s.port p).afterReply := by
  simp [State.completeReply, notDue, replying, ordinary]

/-- The DONE to YARD_RESTART makes the restart due (R181). -/
theorem State.completeReply_of_restart (notDue : s.restartDue = false) {r : Reply}
    (replying : (s.port p).activity = .replying r) (restart : r.isRestart = true) :
    s.completeReply p = { s.setPort p (s.port p).afterRestartReply with restartDue := true } := by
  simp [State.completeReply, notDue, replying, restart]

theorem State.completeReply_of_answeringBusy (notDue : s.restartDue = false) {k : Byte}
    (answering : (s.port p).activity = .answeringBusy k) :
    s.completeReply p = s.setPort p { s.port p with activity := .free } := by
  simp [State.completeReply, notDue, answering]

/-- While a restart is due no last byte leaves (R176, log 8). -/
theorem State.completeReply_of_restartDue (due : s.restartDue = true) (p : PortId) : s.completeReply p = s := if_pos due

theorem Port.afterReply_of_none {x : Port} (h : x.owed = none) : x.afterReply = { x with activity := .free } := by
  rw [Port.afterReply, h]

theorem Port.afterReply_of_some {x : Port} {k : Byte} (h : x.owed = some k) :
    x.afterReply = { x with activity := .answeringBusy k, owed := none } := by
  rw [Port.afterReply, h]

theorem Port.afterRestartReply_of_none {x : Port} (h : x.owed = none) :
    x.afterRestartReply = { x with activity := .free } := by
  rw [Port.afterRestartReply, h]

/-! ## A reply begun -/

/-- With no restart due a port begins its reply. -/
theorem State.beginReply_of_notDue (notDue : s.restartDue = false) (p : PortId) (kind : Byte) (body : ReplyBody) :
    s.beginReply p kind body = s.setActivity p (.replying { kind := kind, body := body }) := by
  rw [State.beginReply, notDue]
  rfl

/-- While a restart is due it begins none (log 8). -/
theorem State.beginReply_of_due (due : s.restartDue = true) (p : PortId) (kind : Byte) (body : ReplyBody) :
    s.beginReply p kind body = s.setActivity p .awaitingRestart := by
  rw [State.beginReply, due]
  rfl

/-- A port that has begun its reply to YARD_RESTART, and owes nothing, makes the restart due as the reply leaves, and is FREE
again as it was. -/
theorem State.completeReply_answered_restart (notDue : s.restartDue = false) (free : (s.port p).activity = .free)
    (owes : (s.port p).owed = none) :
    (s.answered p .yardRestart (.done .nothing)).completeReply p = { s with restartDue := true } := by
  have begun : (s.answered p .yardRestart (.done .nothing)).port p =
      { s.port p with activity := .replying { kind := Kind.yardRestart.code, body := .master (.done .nothing) } } := by
    rw [State.answered, State.beginReply_of_notDue notDue, State.setActivity, State.port_setPort_self]
  have left : ((s.answered p .yardRestart (.done .nothing)).port p).afterRestartReply = s.port p := by
    rw [Port.afterRestartReply_of_none ((congrArg Port.owed begun).trans owes), begun, ← free]
  rw [State.completeReply_of_restart (s := s.answered p .yardRestart (.done .nothing)) notDue
      (congrArg Port.activity begun) (by decide), left, State.answered, State.beginReply, State.setActivity,
    State.setPort_setPort, State.setPort_port]

end

/-- Settles O6: the four commands that move a receiver; the reply that leaves, by what its port owes; and YARD_RESTART answered,
its reply leaving at once. -/
theorem receiversMoveAndRepliesLeave : Obligations.ReceiversMoveAndRepliesLeave := by
  refine ⟨fun p n s hsupply hdue => ?receivers, fun p s hsupply hdue notDue => ?replies, fun s ready notDue owes => ?restart⟩
  case receivers =>
    have settled : ∀ r, State.setReceiver p r s.settle = s.setPort p { s.port p with receiver := r } := fun r => by
      rw [State.settle_of_nothing_due hdue, State.setReceiver_inService hsupply]
    exact ⟨congrArg Host.Outcome.next (settled .assembling),
      fun long => congrArg Host.Outcome.next ((if_pos long).trans (settled .hunting)),
      congrArg Host.Outcome.next (settled .hunting), congrArg Host.Outcome.next (settled .hunting)⟩
  case replies =>
    rw [exec_replyComplete hsupply hdue]
    refine ⟨fun r replying ordinary owes => ?_, fun r k replying ordinary owes => ?_, fun k answering => ?_⟩
    · rw [State.completeReply_of_replying notDue replying ordinary, Port.afterReply_of_none owes]
    · rw [State.completeReply_of_replying notDue replying ordinary, Port.afterReply_of_some owes]
    · rw [State.completeReply_of_answeringBusy notDue answering]
  case restart =>
    refine ⟨(s.received .ofc).answered .ofc .yardRestart (.done .nothing),
      exec_answered (m := .ofc) (req := .yardRestart) ready rfl rfl rfl, rfl, ?_⟩
    obtain ⟨hsupply, free, hdue⟩ := ready
    rw [exec_replyComplete (s := (s.received .ofc).answered .ofc .yardRestart (.done .nothing)) hsupply hdue,
      State.completeReply_answered_restart (s := s.received .ofc) notDue] <;> rwa [State.port_received_self]

end Sys2Proof.Machine
end

section
/-! # While a restart is due nothing is sent -/

namespace Sys2Proof.Machine

open Sys2Proof

/-! ## What a port sends -/

theorem sending_of_ports {s t : State} (h : t.ports = s.ports) : t.sending = s.sending := by
  funext p
  rw [State.sending, State.port, h]
  rfl

theorem sending_of_outsideScheduler {s t : State} (h : t.outsideScheduler = s.outsideScheduler) : t.sending = s.sending :=
  sending_of_ports (ports_of_outsideScheduler h)

/-- A view that agrees but for the Report Intake leaves the ports. -/
theorem sending_of_intake {s t : State} {i : IntakeState} (h : t.yardView = (s.withIntake i).yardView) :
    t.sending = s.sending := by
  obtain ⟨-, -, -, -, -, -, ports⟩ := YardView.mk.inj h
  exact sending_of_ports ports

section
variable {s : State} {p : PortId}

theorem State.sending_of_free (h : (s.port p).activity = .free) : s.sending p = none := by rw [State.sending, h]

theorem State.sending_of_waiting {held : Held} (h : (s.port p).activity = .waiting held) : s.sending p = none := by
  rw [State.sending, h]

theorem State.sending_of_awaitingRestart (h : (s.port p).activity = .awaitingRestart) : s.sending p = none := by
  rw [State.sending, h]

/-- A port that goes on with what it sends. -/
theorem State.setPort_sending {x : Port} (h : (s.setPort p x).sending p = s.sending p) :
    (s.setPort p x).sending = s.sending := by
  funext q
  by_cases hpq : p = q
  · exact hpq ▸ h
  · rw [State.sending, State.port_setPort_ne _ _ hpq]
    rfl

/-- A port that goes on with what it is doing. -/
theorem State.setPort_sending_of_activity {x : Port} (h : x.activity = (s.port p).activity) :
    (s.setPort p x).sending = s.sending := by
  refine State.setPort_sending ?_
  rw [State.sending, State.port_setPort_self, h]
  rfl

/-- A port that sends nothing begins no reply while a restart is due. -/
theorem State.beginReply_sending (silent : s.sending p = none) {kind : Byte} {body : ReplyBody}
    (due : (s.beginReply p kind body).restartDue = true) : (s.beginReply p kind body).sending = s.sending := by
  have before : s.restartDue = true := due
  rw [State.beginReply_of_due before]
  refine State.setPort_sending ((State.sending_of_awaitingRestart ?_).trans silent.symm)
  rw [State.port_setPort_self]

end

/-! ## Requests taken and resumed -/

/-- What becomes of a request on a port that sends nothing: the port holds it, or answers it by no reply. That no reply begins
is read from the part as it is left, since a reply begun leaves the restart as due as it was. -/
theorem State.Taken.sending {m : Master} {s : State} {r : State × Option MasterReply} (taken : State.Taken m s r)
    (silent : s.sending m.port = none) {kind : Byte} (due : (State.answer m kind r).restartDue = true) :
    (State.answer m kind r).sending = s.sending := by
  obtain ⟨t, reply⟩ := r
  rcases taken with ⟨x, rfl, lookups⟩ | ⟨rfl, held, tag, -, lookups⟩
  · simp only [State.lookups, Prod.mk.injEq] at lookups
    obtain ⟨-, -, -, ports⟩ := lookups
    have same : t.sending = s.sending := sending_of_ports ports
    exact (State.beginReply_sending (s := t) (p := m.port) (by rw [same, silent]) due).trans same
  · simp only [State.lookups, Prod.mk.injEq] at lookups
    obtain ⟨-, -, -, ports⟩ := lookups
    obtain ⟨sought, -⟩ := s.startSearch_ports ⟨.master m, tag⟩
    have searching : (s.startSearch ⟨.master m, tag⟩).sending = s.sending := sending_of_ports sought
    refine (sending_of_ports ports).trans ((State.setPort_sending ?_).trans searching)
    rw [searching, silent]
    exact State.sending_of_waiting (congrArg Port.activity (State.port_setPort_self _ _ _))

/-! ## Frames -/

theorem State.arrive_sending (u : UnitReport) (s : State) : (s.arrive u).1.sending = s.sending := by
  unfold State.arrive
  split
  · rfl
  · exact sending_of_outsideScheduler (outsideScheduler_of_outsideNotices (s.raise_frame _))

theorem State.replyUnit_sending {s : State} {kind : Byte} {status : UnitStatus} (silent : s.sending .unt = none)
    (due : (s.replyUnit kind status).restartDue = true) : (s.replyUnit kind status).sending = s.sending := by
  have sent : s.sendHead.1.sending = s.sending :=
    sending_of_outsideScheduler (outsideScheduler_of_outsideRecords s.sendHead_frame)
  exact (State.beginReply_sending (s := s.sendHead.1) (p := .unt) (by rw [sent, silent]) due).trans sent

theorem State.takeUnit_sending {s : State} {k : Kind} {body : List Byte} (silent : s.sending .unt = none)
    (due : (s.takeUnit k body).restartDue = true) : (s.takeUnit k body).sending = s.sending := by
  revert due
  unfold State.takeUnit
  split
  · next u _ =>
    have arrived := s.arrive_sending u
    exact fun due => (State.replyUnit_sending (by rw [arrived, silent]) due).trans arrived
  · exact State.replyUnit_sending silent

theorem PortId.eq_unt_of_master {p : PortId} (h : p.master = none) : p = .unt := by
  cases p with
  | unt => rfl
  | ofc | cab | pat => cases h

theorem PortId.eq_port_of_master {p : PortId} {m : Master} (h : p.master = some m) : p = m.port := by
  cases p <;> cases h <;> rfl

/-- A frame judged on a port that sends nothing begins no reply while a restart is due. -/
theorem State.judgeFrame_sending {s : State} {p : PortId} {kind : Byte} {body : List Byte} (silent : s.sending p = none)
    (due : (s.judgeFrame p kind body).restartDue = true) : (s.judgeFrame p kind body).sending = s.sending := by
  have refused : ∀ master unit, (s.refuse p kind master unit).restartDue = true →
      (s.refuse p kind master unit).sending = s.sending := fun _ _ => State.beginReply_sending silent
  revert due
  unfold State.judgeFrame
  split
  · exact refused _ _
  · split
    · exact refused _ _
    · split
      · exact refused _ _
      · split
        · next hm =>
          obtain rfl := PortId.eq_unt_of_master hm
          exact State.takeUnit_sending silent
        · next m hm =>
          obtain rfl := PortId.eq_port_of_master hm
          split
          · exact refused _ _
          · exact (s.takeRequest_taken m _).sending silent

theorem State.oweBusy_sending (p : PortId) (kind : Byte) (s : State) : (s.oweBusy p kind).sending = s.sending := by
  unfold State.oweBusy
  split
  · rfl
  · rfl
  · exact State.setPort_sending_of_activity rfl

theorem State.received_sending (p : PortId) (s : State) : (s.received p).sending = s.sending :=
  State.setPort_sending_of_activity rfl

theorem receiveFrame_sending {s : State} {p : PortId} {kind : Byte} {body : List Byte}
    (due : (State.receiveFrame p kind body s).restartDue = true) :
    (State.receiveFrame p kind body s).sending = s.sending := by
  by_cases hsupply : s.supply = .inService
  · revert due
    rw [receiveFrame_inService hsupply]
    split
    · next free =>
      intro due
      have silent : (s.received p).sending p = none := by rw [State.received_sending, State.sending_of_free free]
      exact (State.judgeFrame_sending silent due).trans (s.received_sending p)
    · exact fun _ => (State.oweBusy_sending p kind _).trans (s.received_sending p)
  · rw [receiveFrame_outOfService hsupply]

theorem State.setReceiver_sending (p : PortId) (r : Receiver) (s : State) : (s.setReceiver p r).sending = s.sending := by
  unfold State.setReceiver
  split
  · exact State.setPort_sending_of_activity rfl
  · rfl

/-! ## The Report Intake and the engine -/

theorem State.answerIntake_sending (a : Answer) (s : State) : (s.answerIntake a).sending = s.sending := by
  obtain ⟨i, view⟩ := s.answerIntake_yardView a
  exact sending_of_intake view

theorem State.lookup_sending (w : Waiter) (t : Tag) (s : State) : (s.lookup w t).1.sending = s.sending := by
  obtain ⟨c, e, l, looked⟩ := s.lookup_frame w t
  rw [looked]
  rfl

theorem State.takeHead_sending (s : State) : s.takeHead.sending = s.sending := by
  unfold State.takeHead
  split
  · split
    · rfl
    · exact (State.answerIntake_sending _ _).trans (s.lookup_sending _ _)
  · rfl

theorem State.discardUnknown_sending (u : UnitReport) (s : State) : (s.discardUnknown u).sending = s.sending :=
  sending_of_intake (s.discardUnknown_yardView u)

theorem State.dropHead_sending (s : State) : s.dropHead.sending = s.sending := rfl

theorem State.applyHead_sending (s : State) : s.applyHead.sending = s.sending := by
  unfold State.applyHead
  split
  · split
    · exact s.discardUnknown_sending _
    · split
      · exact s.discardUnknown_sending _
      · split
        · rfl
        · split
          · rfl
          · exact (State.dropHead_sending _).trans (sending_of_outsideScheduler (s.applyReport_frame _ _ _ _))
  · rfl

/-- The answer of a search is found or not found (R30, R31). -/
theorem State.searchResult_ne_waiting (t : Tag) (s : State) : (s.searchResult t).2 ≠ .waiting := by
  rcases s.searchResult_cases t with ⟨-, h⟩ | ⟨i, r, -, -, -, h⟩ <;> rw [h] <;> nofun

theorem State.deliver_sending {s : State} {w : Waiter} {a : Answer} (ha : a ≠ .waiting)
    (due : (s.deliver w a).restartDue = true) : (s.deliver w a).sending = s.sending := by
  revert due
  unfold State.deliver
  split
  · exact fun _ => s.answerIntake_sending a
  · next m =>
    split
    · next held waiting => exact (s.resume_taken m held ha).sending (State.sending_of_waiting waiting)
    all_goals exact fun _ => rfl

theorem State.nextSearch_sending (s : State) : s.nextSearch.sending = s.sending := rfl

theorem State.completeSearch_sending {s : State} (due : s.completeSearch.restartDue = true) :
    s.completeSearch.sending = s.sending := by
  revert due
  unfold State.completeSearch
  split
  · exact fun _ => rfl
  · next q _ =>
    obtain ⟨c, searched⟩ := State.searchResult_frame q.tag s
    intro due
    refine (State.nextSearch_sending _).trans ((State.deliver_sending (s.searchResult_ne_waiting q.tag) due).trans ?_)
    rw [searched]
    rfl

/-! ## Every command -/

theorem State.settle_sending (s : State) : s.settle.sending = s.sending :=
  sending_of_outsideScheduler (t := s.settle) (s := { s with due := [] }) s.settle_frame

theorem State.settle_restartDue (s : State) : s.settle.restartDue = s.restartDue := by
  have due : s.settle.outsideScheduler.restartDue = { s with due := [] }.outsideScheduler.restartDue :=
    congrArg State.restartDue s.settle_frame
  exact due

theorem State.settle_supply (s : State) : s.settle.supply = s.supply := by
  have supply : s.settle.outsideScheduler.supply = { s with due := [] }.outsideScheduler.supply :=
    congrArg State.supply s.settle_frame
  exact supply

theorem State.takeDue_sending (e : TickEvent) (s : State) : (s.takeDue e).sending = s.sending := by
  unfold State.takeDue
  split
  · exact sending_of_outsideScheduler (s := { s with due := s.due.erase e }) (State.take_frame e _)
  · rfl

theorem State.secondTick_sending (s : State) : s.secondTick.sending = s.sending := by
  unfold State.secondTick
  split
  · exact sending_of_ports (by rw [s.countTick_frame])
  · split <;> rfl
  · rfl

theorem State.endPulse_sending (m : Master) (s : State) : (s.endPulse m).sending = s.sending := by
  unfold State.endPulse
  split <;> rfl

/-- A step of the part's own that leaves what is sent. -/
theorem State.whenInService_sending {f : State → State} {s : State}
    (h : (f s).restartDue = true → (f s).sending = s.sending) (due : (s.whenInService f).restartDue = true) :
    (s.whenInService f).sending = s.sending := by
  revert due
  unfold State.whenInService
  split
  · exact h
  · exact fun _ => rfl

/-- No work of the part begins or ends a frame while a restart is due. -/
theorem CommandWork.sending {s t : State} (work : CommandWork s t) (before : s.restartDue = true)
    (after : t.restartDue = true) : t.sending = s.sending := by
  have settled := s.settle_sending
  have due : s.settle.restartDue = true := s.settle_restartDue.trans before
  cases work with
  | frame p kind body => exact (receiveFrame_sending after).trans settled
  | receiver p r => exact (State.setReceiver_sending p r _).trans settled
  | settled => exact settled
  | reply p =>
    refine (State.whenInService_sending (fun _ => ?_) after).trans settled
    rw [State.completeReply_of_restartDue due]
  | search => exact (State.whenInService_sending State.completeSearch_sending after).trans settled
  | head => exact (State.whenInService_sending (fun _ => State.takeHead_sending _) after).trans settled
  | application => exact (State.whenInService_sending (fun _ => State.applyHead_sending _) after).trans settled
  | pulse m => exact (State.whenInService_sending (fun _ => State.endPulse_sending m _) after).trans settled
  | consequence e => exact s.takeDue_sending e
  | tick => exact (State.secondTick_sending _).trans settled

/-- In service, a restart or move of the supply after which a restart is still due has changed nothing. -/
theorem SupplyMove.eq_of_restartDue {s t : State} (move : SupplyMove s t) (hsupply : s.supply = .inService)
    (after : t.restartDue = true) : t = s := by
  cases move with
  | restart strap =>
    unfold State.yardRestart at after ⊢
    split at after
    · cases after
    · next idle => exact if_neg idle
  | applied => rw [State.applySupply, hsupply]
  | failed =>
    rw [State.failMains, hsupply] at after
    cases after
  | returned strap => rw [State.returnMains, hsupply]
  | lost => cases after

theorem exec_sending {c : Instr} {s t : State} (before : s.restartDue = true) (hsupply : s.supply = .inService)
    (run : exec c s = .next t) (after : t.restartDue = true) : t.sending = s.sending := by
  rcases exec_cases run with work | move
  · exact work.sending before after
  · rw [move.eq_of_restartDue (s.settle_supply.trans hsupply) after, s.settle_sending]

/-- Settles O8: what a command can do of the part, with the restart still due after it, begins and ends no frame; no last byte
leaves; and a reply is begun by whether a restart is due. -/
theorem nothingIsSentBeforeTheRestart : Obligations.NothingIsSentBeforeTheRestart := by
  refine ⟨fun c p s t before hsupply run after => congrFun (exec_sending before hsupply run after) p,
    fun p s hsupply hdue due => ?_, fun p k r s => ⟨fun due => ?_, fun notDue => ?_⟩⟩
  · rw [exec_replyComplete hsupply hdue, State.completeReply_of_restartDue due]
  · exact State.beginReply_of_due due p k.code _
  · exact State.beginReply_of_notDue notDue p k.code _

end Sys2Proof.Machine
end

section
/-! # The invariants hold at reset -/

namespace Sys2Proof.Machine

open Sys2Proof

/-- No trailer is placed at reset (R179). -/
theorem record?_reset (i : RecIdx) : State.reset.record? i = none := by
  simp [State.record?, State.reset, State.cold]

theorem estimatesOk_reset : State.reset.estimatesOk := by
  intro i r hr
  rw [record?_reset] at hr
  cases hr

/-- Settles O54: the map, the cache, the searches and the books by what a part without placed records has, the other invariants
by the cold value of the one table each of them reads. -/
theorem resetKeepsEveryInvariant : Obligations.ResetKeepsEveryInvariant := by
  have chains : State.reset.chainsOk := State.chainsOk.reset
  obtain ⟨queue, feeders⟩ := (State.balanced_iff chains).mp State.balanced_reset
  obtain ⟨⟨map, cache⟩, searches⟩ : State.reset.mapKept := cold_mapKept (strap := false) rfl
  have capacity : State.reset.withinCapacity := cold_withinCapacity rfl rfl (Nat.zero_le _)
  have held : State.reset.heldOk := heldOk_of_cold rfl
  have lines : State.reset.linesOk := State.linesOk_of_cold rfl
  have quiet : State.reset.quietOut := State.quietOut_of_inService rfl
  exact ⟨capacity, chains, map, queue, feeders, held, estimatesOk_reset, Clock.cold_ok, lines, quiet, cache, searches⟩

end Sys2Proof.Machine
end

section
/-! # Every command has a next state -/

namespace Sys2Proof.Machine

open Sys2Proof

/-- No command stops the part: each row of `exec` answers the state its own operation leaves, that of a consequence of a tick as
`exec_command` says, and any other once what is due is settled. -/
theorem exec_total (c : Instr) (s : State) : ∃ t : State, exec c s = .next t := by
  cases c with
  | unitReport p body | poll p body | unknownKind p kind body | portBusy p kind body | zoneSet p body | zoneGet p body
  | baySet p body | place p body | move p body | release p body | recordGet p body | recordEdit p body | collect p body
  | scanChanged p body | sweepSeen p body | flushTags p body | clockSet p body | clockTrim p body | clockGet p body
  | planSet p body | planGet p body | linkSet p body | linkGet p body | configSet p body | configGet p body
  | defrostRequest p body | defrostCancel p body | holdSet p body | holdClear p body | fuelPost p body | checkAdd p body
  | checkClose p body | checkList p body | queueGet p body | feederGet p body | fetchNotice p body | holdNotices p body
  | releaseNotices p body | statusGet p body | yardRestart p body | setBudget p body | revoke p body | nextCheck p body =>
    exact ⟨State.receiveFrame p _ body s.settle, rfl⟩
  | frameCheckFail p | interbyteTimeout p | syncByte p => exact ⟨State.setReceiver p _ s.settle, rfl⟩
  | bodyLengthAbove120 p length =>
    exact ⟨if Config.maxBody < length.toNat then State.setReceiver p .hunting s.settle else s.settle, rfl⟩
  | replyComplete p => exact ⟨s.settle.whenInService (State.completeReply p), rfl⟩
  | searchComplete => exact ⟨s.settle.whenInService State.completeSearch, rfl⟩
  | takeHead => exact ⟨s.settle.whenInService State.takeHead, rfl⟩
  | reportApplication => exact ⟨s.settle.whenInService State.applyHead, rfl⟩
  | pulseEnd m => exact ⟨s.settle.whenInService (State.endPulse m), rfl⟩
  | minuteRollover => exact ⟨_, exec_command .rollover s⟩
  | unitSilent i => exact ⟨_, exec_command (.silent i) s⟩
  | doorOpenLong i => exact ⟨_, exec_command (.doorLong i) s⟩
  | abandoned i => exact ⟨_, exec_command (.abandon i) s⟩
  | timedOut i => exact ⟨_, exec_command (.timeOut i) s⟩
  | defrostNotBeforeZero i => exact ⟨_, exec_command (.waitOver i) s⟩
  | cmdUnconfirmed i => exact ⟨_, exec_command (.unconfirmed i) s⟩
  | checkTimeout i k => exact ⟨_, exec_command (.checkTimeout i k) s⟩
  | suppressionWindowExpiry m => exact ⟨_, exec_command (.windowOver m) s⟩
  | secondTick => exact ⟨s.settle.secondTick, rfl⟩
  | restartAct strap => exact ⟨s.settle.yardRestart strap, rfl⟩
  | supplyApplied => exact ⟨s.settle.applySupply, rfl⟩
  | mfailAsserted => exact ⟨s.settle.failMains, rfl⟩
  | mfailReleased strap => exact ⟨s.settle.returnMains strap, rfl⟩
  | supplyLoss => exact ⟨s.settle.loseSupply, rfl⟩

theorem step_of_pending_cons {c : Instr} {rest : List Instr} {s : State} (waiting : s.pending = c :: rest) :
    step s = exec c { s with pending := rest } := by
  rw [step, waiting]

theorem step_of_pending_nil {s : State} (idle : s.pending = []) : step s = .next s := by
  rw [step, idle]

/-- Settles O1: a step by whether a command waits, and the outcome of a command by its row. -/
theorem stepRunsTheQueue : Obligations.StepRunsTheQueue :=
  ⟨fun _ _ _ => step_of_pending_cons, fun _ => step_of_pending_nil, exec_total⟩

end Sys2Proof.Machine
end
